-- ==== Sys2Proof/Word.lean ====
section
/-! DEFINITION. Bytes and sixteen-bit words as the zone ring carries them (01, section 1.1). -/

namespace Sys2Proof

/-- One byte of a ring frame. -/
abbrev Byte := BitVec 8

/-- A sixteen-bit value of a ring frame: the check word, a temperature, a mask. -/
abbrev Word := BitVec 16

/-- A number as one byte of a frame. -/
abbrev byteOf (n : Nat) : Byte := BitVec.ofNat 8 n

end Sys2Proof
end

