-- ==== Sys2Proof/Syntax.lean ====
section
/-! DEFINITION. The commands of the MB16: one constructor of `Instr` per row of
spec/opcode_table.json. A command is an event that reaches the part from outside, or a step of the
part that the table lists on its own. -/

namespace Sys2Proof

/-- The two kinds of valve head (09, R142): proportional or on/off. -/
inductive HeadKind where
  | motor
  | thermal
deriving DecidableEq, Repr

/-- The two signalling timings of the actuator string (09, R142). -/
inductive Timing where
  | basic
  | fast
deriving DecidableEq, Repr

/-- What the converter delivers for one conversion (04, R61). -/
inductive Conversion where
  /-- a reading in cK -/
  | reading (r : Int)
  /-- a broken or missing probe -/
  | openProbe
  /-- a shorted probe -/
  | shortProbe
deriving DecidableEq, Repr

/-- A head's answer to the command in flight (09, R142). -/
inductive HeadAnswer where
  /-- the answer to a MOVE or a SWITCH: the head's own kind (a value is accepted when the kind suits) -/
  | accepted (kind : HeadKind)
  /-- the answer to a PROBE: kind, present position, blocked indication -/
  | probed (kind : HeadKind) (position : Fin 1001) (blocked : Bool)
  /-- the answer to a SET-TIMING: the timing the head now runs at -/
  | retimed (timing : Timing)
deriving DecidableEq, Repr

/-- Where an order comes from (01, R10, R13; 02, R22): the origin and tag of its frame, and whether
the frame was a broadcast. -/
structure OrderFrom where
  origin : Nat
  tag : Nat
  broadcast : Bool
deriving DecidableEq, Repr

/-- The commands. An order row carries its source and the bytes that follow the order code (for a
WRITE, the bytes that follow the table number, which the row fixes). -/
inductive Instr where
  | frameArrival (bytes : List Byte)
  | sendComplete
  | read (src : OrderFrom) (args : List Byte)
  | writeProfile (src : OrderFrom) (args : List Byte)
  | writeBinding (src : OrderFrom) (args : List Byte)
  | writeRoom (src : OrderFrom) (args : List Byte)
  | writeLoop (src : OrderFrom) (args : List Byte)
  | writeWindow (src : OrderFrom) (args : List Byte)
  | writeChannel (src : OrderFrom) (args : List Byte)
  | writeReadOnlyTable (src : OrderFrom) (table : Byte) (args : List Byte)
  | status (src : OrderFrom) (args : List Byte)
  | clear (src : OrderFrom) (args : List Byte)
  | mode (src : OrderFrom) (args : List Byte)
  | store (src : OrderFrom) (args : List Byte)
  | recall (src : OrderFrom) (args : List Byte)
  | restart (src : OrderFrom) (args : List Byte)
  | reseed (src : OrderFrom) (args : List Byte)
  | hold (src : OrderFrom) (args : List Byte)
  | release (src : OrderFrom) (args : List Byte)
  | clearfault (src : OrderFrom) (args : List Byte)
  | string (src : OrderFrom) (args : List Byte)
  | forget (src : OrderFrom) (args : List Byte)
  | discover (src : OrderFrom) (args : List Byte)
  | orderUnknown (src : OrderFrom) (code : Byte) (args : List Byte)
  | storeComplete (verified : Bool)
  | recallComplete
  | powerUp (straps : Fin 32)
  | powerUpRecallComplete
  | conversionStart (channel : Fin 18)
  | conversionResult (channel : Fin 18) (result : Conversion)
  | channelFresh (channel : Fin 18) (result : Conversion)
  | channelAging (channel : Fin 18) (result : Conversion)
  | channelLoss (channel : Fin 18) (result : Conversion)
  | controlRoundExpiry
  | startEnd
  | exerciseStart
  | exercisePhaseEnd
  | balancingRoundEnd
  | roomStaleTimeout (room : Fin 12)
  | windowTimeout (room : Fin 12)
  | sourceRecordStale
  | requestStep
  | loopSettled (loop : Fin 16)
  | windowTrip (window : Fin 8)
  | headStall (head : Fin 16)
  | reprobeDue (head : Fin 16)
  | periodStart (loop : Fin 16)
  | switchOffSlot (loop : Fin 16)
  | warmUpComplete (loop : Fin 16)
  | transferStart
  | headAnswer (head : Fin 16) (answer : HeadAnswer)
  | answerWindowEnd (head : Fin 16)
  | timingSwitchBegin
  | timingBroadcastComplete
  | stringSupplyDip
  | stringSupplyRise
  | stringSupplyGood
  | longDip
deriving DecidableEq, Repr

end Sys2Proof
end

