-- ==== Sys2Proof/Decode.lean ====
section
/-! DEFINITION. The command that a word spells. No row of spec/opcode_table.json gives bits (its
"fields" lists are empty), so no word spells a command. -/

namespace Sys2Proof

/-- The table gives bits to none of its rows: every word is answered `none`. -/
def decodeTableWord (_nbits _w : Nat) : Option Instr := none

end Sys2Proof
end

