-- ==== Sys2Proof/Config.lean ====
section
/-! DEFINITION. The constants the spec fixes for the part. The spec leaves no result of a command
undefined, so there is no free value here. -/

namespace Sys2Proof.Config

/-- 01 R6: the insertion queue never holds more than 6 frames. -/
def insertionPlaces : Nat := 6
/-- 01 R11: the own-send queue holds at most 8 frames. -/
def ownPlaces : Nat := 8
/-- 01 R11: a notice needs fewer than 6 frames in the own-send queue. -/
def noticeRoom : Nat := 6
/-- 01 R9: an own frame is sent when the forward streak stands at 8. -/
def streakLimit : Nat := 8
/-- 01 section 1.1: an originator sets the hop to 31. -/
def originHop : Nat := 31
/-- 02 section 2.2: a field that is absent or none travels as -32768. -/
def noneCode : Int := -32768
/-- 02 R23: READ returns up to nine fields. -/
def readFields : Nat := 9
/-- 02 R31: an exercise starts every 10080 control rounds of SUMMER. -/
def exerciseInterval : Nat := 10080
/-- 02 R30: START ends at the second expiry after the reference moment. -/
def startRounds : Nat := 2
/-- 03 R51: the plausible band of air temperatures. -/
def airLow : Int := -1000
/-- 03 R51: the plausible band of air temperatures. -/
def airHigh : Int := 4500
/-- 03 R51: setpoints are clamped to [500, 3000]. -/
def setpointLow : Int := 500
/-- 03 R51: setpoints are clamped to [500, 3000]. -/
def setpointHigh : Int := 3000
/-- 03 R54: the LIMITED mark clears 100 cK below the floor limit. -/
def floorHysteresis : Int := 100
/-- 04 R61: the band of valid trimmed readings. -/
def bandLow : Int := -3000
/-- 04 R61: the band of valid trimmed readings. -/
def bandHigh : Int := 9500
/-- 04 R62: a history holds sixteen samples. -/
def historyPlaces : Nat := 16
/-- 04 R63: F is the mean of the newest eight. -/
def filterSamples : Nat := 8
/-- 04 R65: three valid samples in a row make a channel FRESH. -/
def freshRun : Nat := 3
/-- 04 R65: a FRESH channel becomes AGING at the sixth missed period. -/
def agingPeriods : Nat := 6
/-- 04 R66: a channel is LOST at the thirtieth missed period. -/
def lostPeriods : Nat := 30
/-- Counts of rounds and periods are held at 255 (03 R43, R52; 04 R64; 08 R135). -/
def countCap : Nat := 255
/-- 05 R80: the error is clamped to [-500, 500]. -/
def errorLimit : Int := 500
/-- 05 R79, R84: the frost-guard temperature. -/
def frostGuard : Int := 700
/-- 05 R84: the frost-guard demand. -/
def frostDemand : Int := 300
/-- Full stroke, full demand, largest factor: 1000 permille. -/
def full : Int := 1000
/-- 06 R97: an OPEN loop moved by 100 or more becomes OPENING. -/
def reopenStep : Int := 100
/-- 06 R95: the settle counter of a MOTOR loop. -/
def motorSettle : Nat := 3
/-- 06 R104, R105: a phase that waits for its head ends at the third expiry. -/
def phaseRounds : Nat := 3
/-- 06 R90: a room has at most four loops. -/
def loopsPerRoom : Nat := 4
/-- 07 R114: the spread must lie in [0, 2500]. -/
def spreadHigh : Int := 2500
/-- 08 R135: a source record is fresh while its age is 10 or less. -/
def sourceFresh : Nat := 10
/-- 08 R135: the age after a power-up or a RESTART. -/
def sourceResetAge : Nat := 11
/-- 08 R136: the demand at or above which the up counter rises. -/
def demandHigh : Int := 900
/-- 08 R136: the demand at or below which the down counter rises. -/
def demandLow : Int := 600
/-- 08 R136: a counter that reaches 3 steps T_req. -/
def requestRounds : Nat := 3
/-- 08 R137: the lower bound from rooms lies 300 cK above the largest effective setpoint. -/
def roomMargin : Int := 300
/-- 09 R151: a head within 10 permille has arrived. -/
def arrivalBand : Int := 10
/-- 09 R151: a head travelling for 5 rounds has stalled. -/
def stallRounds : Nat := 5
/-- 09 R150: an UNREACHABLE head is re-probed every ten control rounds. -/
def reprobeRounds : Nat := 10
/-- 09 R148: the third miss makes a head UNREACHABLE. -/
def missLimit : Nat := 3
/-- 10 R159: the slot position is held at 60. -/
def slotCap : Nat := 60

end Sys2Proof.Config
end

