-- ==== Sys2Proof/Machine/Tab.lean ====
section
/-! DEFINITION. Tables of a fixed number of like records (sixteen loops, twelve rooms, ...), as plain
data: a list together with the proof of its length. -/

namespace Sys2Proof.Machine

/-- `n` records of one kind, indexes 0 to n - 1. -/
structure Tab (n : Nat) (α : Type) where
  toList : List α
  len : toList.length = n
deriving DecidableEq, Repr

variable {n : Nat} {α β : Type}

/-- The record at an index. -/
def Tab.get (t : Tab n α) (i : Fin n) : α := t.toList.get (i.cast t.len.symm)

/-- The table with the record at one index replaced. -/
def Tab.set (t : Tab n α) (i : Fin n) (a : α) : Tab n α :=
  ⟨t.toList.set i.val a, by rw [List.length_set]; exact t.len⟩

/-- The table with the record at one index changed by a function. -/
def Tab.modify (t : Tab n α) (i : Fin n) (f : α → α) : Tab n α := t.set i (f (t.get i))

/-- The table whose record at index i is `f i`. -/
def Tab.ofFn (f : Fin n → α) : Tab n α := ⟨List.ofFn f, List.length_ofFn⟩

/-- Every record changed alike. -/
def Tab.map (f : α → β) (t : Tab n α) : Tab n β :=
  ⟨t.toList.map f, by rw [List.length_map]; exact t.len⟩

/-- Every record changed, with its index at hand. -/
def Tab.mapIdx (f : Fin n → α → β) (t : Tab n α) : Tab n β := Tab.ofFn fun i => f i (t.get i)

/-- The same record at every index. -/
def Tab.fill (a : α) : Tab n α := ⟨List.replicate n a, List.length_replicate⟩

/-- How many records satisfy a test. -/
def Tab.count (p : α → Bool) (t : Tab n α) : Nat := t.toList.countP p

/-- Is there a record that satisfies a test? -/
def Tab.any (p : α → Bool) (t : Tab n α) : Bool := t.toList.any p

/-- The lowest index whose record satisfies a test. -/
def Tab.find (p : α → Bool) (t : Tab n α) : Option (Fin n) :=
  (List.finRange n).find? fun i => p (t.get i)

end Sys2Proof.Machine
end

