-- ==== Sys2Proof/Machine/Records.lean ====
section
/-! DEFINITION. The records of the MB16's blocks, as the spec's tables list them. Temperatures,
openings, demands and balance factors are integers, counts are natural numbers (00, Conventions). -/

namespace Sys2Proof.Machine

/-! ## Frames and the ring port (01) -/

/-- The six frame kinds of the header table (01, section 1.1). -/
inductive FrameKind where
  | rrp | srp | call | ord | ans | ntc
deriving DecidableEq, Repr

/-- One frame of the zone ring (01, section 1.1). -/
structure Frame where
  dest : Nat
  origin : Nat
  hop : Nat
  kind : FrameKind
  tag : Nat
  payload : List Byte
  check : Word
deriving DecidableEq, Repr

/-- The ring port (01, R6 to R12, R16). -/
structure RingPort where
  /-- own station address, 0 to 31 (R14) -/
  station : Nat
  /-- received frames waiting for Ring OUT, oldest first (R6) -/
  insertion : List Frame
  /-- own frames waiting for Ring OUT, the head first (R11) -/
  ownSend : List Frame
  /-- the frame being sent; none while IDLE (R8) -/
  out : Option Frame
  /-- forward streak (R9) -/
  streak : Nat
  /-- own tag counter (R10) -/
  ownTag : Nat
  /-- payload of the pending CALL value (R12) -/
  pendingCall : Option (List Byte)
  /-- the deferred answer of a completed STORE or RECALL (R11) -/
  deferred : Option Frame
deriving DecidableEq, Repr

/-! ## The profile (02, section 2.3) -/

/-- The modes a MODE order and the profile can name (02, R21). -/
inductive RunMode where
  | heating | summer
deriving DecidableEq, Repr

/-- The part mode (02, R30 to R32). -/
inductive PartMode where
  | start | heating | summer | repeater
deriving DecidableEq, Repr

/-- Table 0, fields 0 to 23. -/
structure Profile where
  manager : Nat
  source : Nat
  broadcast : Bool
  learn : Bool
  spreadTarget : Int
  gain : Int
  stepLimit : Int
  deadband : Int
  bMin : Int
  eligibility : Int
  roundLength : Nat
  requestMin : Int
  requestMax : Int
  requestStep : Int
  overLimit : Int
  overHyst : Int
  supply : Fin 18
  period : Nat
  warmUp : Nat
  inrush : Nat
  motorDeadband : Int
  noticeMask : Word
  alertMask : Word
  modeAtStart : RunMode
deriving DecidableEq, Repr

/-! ## Binding table and room records (03) -/

/-- One binding entry (03, R38). -/
inductive BindingEntry where
  | free
  | bound (address : Nat) (room : Fin 12) (lastAir : Option Int) (seen : Nat)
  | learned (address rank : Nat) (lastAir : Int) (seen : Nat)
deriving DecidableEq, Repr

/-- Fields 0 to 6 of a room record (03, section 3.2). -/
structure RoomCfg where
  kp : Int
  ki : Int
  setback : Int
  floorLimit : Option Int
  staleTime : Nat
  fallback : Int
  windowTimeout : Nat
deriving DecidableEq, Repr

/-- Room states (03, section 3.2.1). -/
inductive RoomState where
  | unbound | waiting | active | stale
deriving DecidableEq, Repr

/-- Room modes as a report carries them (01, section 1.1). -/
inductive RoomMode where
  | comfort | setback | off
deriving DecidableEq, Repr

/-- A room record (03, section 3.2; I and D are the room controller's, 05 R75). -/
structure Room where
  cfg : RoomCfg
  state : RoomState
  air : Option Int
  setpoint : Option Int
  mode : Option RoomMode
  floor : Option Int
  windowOpen : Bool
  batteryLow : Bool
  sinceReport : Nat
  windowMark : Bool
  limited : Bool
  implausible : Bool
  windowRounds : Nat
  lockout : Bool
  integrator : Int
  demand : Int
deriving DecidableEq, Repr

/-! ## Probe channels (04) -/

/-- Fields 0 and 1 of a channel entry (04, R56). -/
structure ChannelCfg where
  input : Fin 18
  trim : Int
deriving DecidableEq, Repr

/-- Channel states (04, section 4.4). -/
inductive ChannelState where
  | unused | filling | fresh | aging | lost
deriving DecidableEq, Repr

/-- Field 9 of a channel entry (04, R56, R61). -/
inductive LastResult where
  | valid | openProbe | shortProbe | outOfBand | none
deriving DecidableEq, Repr

/-- A probe channel (04, R56). The history is kept newest first; its length is the fill count, and
the newest sample stands at the place one before the write index (R62). -/
structure Channel where
  cfg : ChannelCfg
  state : ChannelState
  filtered : Option Int
  history : List Int
  writeIndex : Nat
  validRun : Nat
  missed : Nat
  lastResult : LastResult
  lastReading : Option Int
deriving DecidableEq, Repr

/-- The conversion in progress (04, R60): its channel, and whether its result is to be discarded. -/
structure Conversions where
  channel : Fin 18
  discard : Bool
deriving DecidableEq, Repr

/-! ## Loop records (06) and the balancing accumulation (07) -/

/-- Fields 0 to 8 of a loop record (06, R89); actuator kind NONE is `none`. -/
structure LoopCfg where
  room : Option (Fin 12)
  kind : Option HeadKind
  channel : Fin 18
  heat : Int
  length : Int
  oMin : Int
  oMax : Int
  safe : Int
  seed : Option Int
deriving DecidableEq, Repr

/-- Loop states (06, R89). -/
inductive LoopState where
  | unbound | closed | opening | open | held | fault | exercise
deriving DecidableEq, Repr

/-- Fault reasons (06, R100). -/
inductive FaultReason where
  | head | stall | kind | window
deriving DecidableEq, Repr

/-- A loop record (06, R89); the spread sum, not readable, is the balancing engine's (07, R110). -/
structure LoopRec where
  cfg : LoopCfg
  state : LoopState
  reason : Option FaultReason
  b : Option Int
  o : Int
  hold : Option Int
  settle : Nat
  openRef : Option Int
  settled : Bool
  degraded : Bool
  spreadSum : Int
  spreadCount : Nat
  spoiled : Bool
deriving DecidableEq, Repr

/-- The two phases of a valve exercise (06, R104, R105). -/
inductive Phase where
  | open | close
deriving DecidableEq, Repr

/-- The exercising loop with its phase and phase count; a THERMAL open phase has no count until the
switch-on is acknowledged (06, R105). -/
structure Turn where
  loop : Fin 16
  phase : Phase
  count : Option Nat
deriving DecidableEq, Repr

/-- The summer valve exercise (06, R103). -/
structure Exercise where
  running : Bool
  list : List (Fin 16)
  current : Option Turn
  /-- a turn that fell due while the alarm was set (R103) -/
  turnDue : Bool
deriving DecidableEq, Repr

/-! ## Opening stage (08) -/

/-- Source states; UNKNOWN is the record's own (08, R134, R135). -/
inductive SourceState where
  | run | defrost | idle | locked | unknown
deriving DecidableEq, Repr

/-- The source record (08, R134, R135). -/
structure SourceRecord where
  state : SourceState
  minimum : Option Int
  maximum : Option Int
  age : Nat
  lastOrigin : Nat
deriving DecidableEq, Repr

/-- The opening stage's state besides the loops' O (08, chapter opening). -/
structure OpeningStage where
  alarm : Bool
  source : SourceRecord
  up : Nat
  down : Nat
  tReq : Int
  /-- D_max as last worked out (R131, R136) -/
  dMax : Int
deriving DecidableEq, Repr

/-! ## The string driver (09) -/

/-- The timing at which the driver speaks to a head (09, R141): none is UNKNOWN. -/
abbrev HeadTiming := Option Timing

/-- A head's wants (09, R143). A poll and a re-probe made by the count are probe wants that R143 and
R150 treat apart. -/
structure Wants where
  timing : Bool
  close : Option HeadKind
  probe : Bool
  poll : Bool
  reprobe : Bool
  drive : Bool
deriving DecidableEq, Repr

/-- A head record with the items no order reads (09, R141). -/
structure Head where
  present : Bool
  kind : Option HeadKind
  timing : HeadTiming
  commanded : Option Int
  acked : Option Int
  position : Option Int
  misses : Nat
  unreachable : Bool
  /-- rounds moving; a value while travelling, none otherwise (R151) -/
  moving : Option Nat
  wants : Wants
  reswitched : Bool
  /-- a PROBE that is to confirm a re-switch is owed (R149) -/
  confirming : Bool
  reprobeCount : Nat
  reprobeTiming : Timing
  /-- code of the command at the first miss of the present run (R148) -/
  firstMiss : Nat
  /-- timing of the command at the second miss (R148) -/
  missTiming : Timing
deriving DecidableEq, Repr

/-- A command on the string (09, R142), with the want it serves. -/
inductive HeadCommand where
  | move (value : Int) (close : Bool)
  | switch (on : Bool) (close : Bool)
  | probe
  /-- the PROBE of a re-probe that the count made (R150) -/
  | reprobe
  /-- the PROBE sent at the other timing after a second miss (R148) -/
  | mismatchProbe
  | setTiming (timing : Timing)
deriving DecidableEq, Repr

/-- The running transfer (09, R146): the command in flight and the members still to be served. -/
structure Transfer where
  group : Fin 4
  head : Fin 16
  command : HeadCommand
  sentAt : Timing
  rest : List (Fin 16)
  /-- in flight at a RESTART: its outcome is ignored and the transfer ends there (R157) -/
  void : Bool
deriving DecidableEq, Repr

/-- The string supply monitor (09, R154). -/
inductive Monitor where
  | good | dip | recovering
deriving DecidableEq, Repr

/-- The string as a whole (09, R141). The driver is SUSPENDED while the monitor is not GOOD. -/
structure StringState where
  timing : Timing
  requested : Option Timing
  /-- the new timing while the broadcast step of a switch is under way (R153) -/
  broadcast : Option Timing
  lastGroup : Fin 4
  transfer : Option Transfer
  monitor : Monitor
  /-- this suspension has passed its 60 s (R156) -/
  longDip : Bool
  /-- the interrupted head; its group is the interrupted group (R154) -/
  resume : Option (Fin 16)
  /-- heads in the order in which they entered the pending sets (R145) -/
  order : List (Fin 16)
deriving DecidableEq, Repr

/-! ## The thermal modulator (10) -/

/-- Modulation states (10, R159). -/
inductive ModState where
  | idle | waiting | granted | warming | on
deriving DecidableEq, Repr

/-- A modulation record (10, R159). -/
structure ModRec where
  state : ModState
  onSlots : Nat
  slotPos : Nat
  warmCount : Nat
  starved : Bool
deriving DecidableEq, Repr

/-- The modulator and the inrush arbiter (10, R159). The warm-up set is the loops in GRANTED or
WARMING. -/
structure Modulator where
  slotCount : Nat
  recs : Tab 16 (Option ModRec)
  queue : List (Fin 16)
deriving DecidableEq, Repr

/-! ## Supervision windows and notices (11) -/

/-- Window quantities (11, R169). -/
inductive Quantity where
  | return | spread | opening
deriving DecidableEq, Repr

/-- Window states (11, R169). -/
inductive WindowState where
  | disarmed | armed | tripped
deriving DecidableEq, Repr

/-- Fields 0 to 8 of a window entry (11, R169). -/
structure WindowCfg where
  loop : Option (Fin 16)
  quantity : Quantity
  low : Int
  high : Int
  outside : Bool
  qualifier : Int
  cumulative : Bool
  threshold : Nat
  faults : Bool
deriving DecidableEq, Repr

/-- A window entry (11, R169). -/
structure Window where
  cfg : WindowCfg
  count : Nat
  state : WindowState
deriving DecidableEq, Repr

/-- The sixteen flags in the order of their numbers (11, section 11.3). -/
inductive Flag where
  | supplyOvertemp | supplyLost | headFault | windowTrip | kindMismatch | storeFailed
  | sourceStale | roomStale | floorLimit | channelLost | stringSupply | storeEmpty
  | ringCheck | ringOverrun | orderDropped | inrushStarved
deriving DecidableEq, Repr

/-- One flag with its kept detail and its membership of the pending-notice set (11, R174, R175). -/
structure FlagRec where
  set : Bool
  index : Nat
  value : Int
  pending : Bool
deriving DecidableEq, Repr

/-! ## The settings store (02, section 2.6) -/

/-- Store states (02, R33). -/
inductive StoreState where
  | ready | storing | recalling
deriving DecidableEq, Repr

/-- What an image holds besides its check word (02, section 2.6). -/
structure ImageData where
  profile : Profile
  rooms : Tab 12 RoomCfg
  loops : Tab 16 LoopCfg
  windows : Tab 8 WindowCfg
  channels : Tab 18 ChannelCfg
  /-- for each window entry, whether its loop field names a loop -/
  written : Tab 8 Bool
  /-- the BOUND entries: address and room -/
  bound : Tab 16 (Option (Nat × Fin 12))
  /-- B of every bound loop -/
  factors : Tab 16 (Option Int)
deriving DecidableEq, Repr

/-- The image: contents, check word, and whether a complete write stands behind them (02, R35). -/
structure Image where
  data : ImageData
  check : Word
  complete : Bool
deriving DecidableEq, Repr

/-- The settings store (02, R33, R35, R36). -/
structure Store where
  state : StoreState
  /-- the RECALLING is the power-up recall (R37) -/
  powerUp : Bool
  /-- origin and tag of the order in progress; none for a broadcast STORE (R22) -/
  requester : Option (Nat × Nat)
  /-- the copy a STORE is writing (R35) -/
  copy : Option ImageData
  image : Image
deriving DecidableEq, Repr

end Sys2Proof.Machine
end

