-- ==== Sys2Proof/Machine/Defaults.lean ====
section
/-! DEFINITION. Factory defaults (02, R37) and the state each kind of record starts from. -/

namespace Sys2Proof.Machine

/-- 02, section 2.3: the profile's defaults. -/
def Profile.factory : Profile where
  manager := 0
  source := 0
  broadcast := false
  learn := true
  spreadTarget := 500
  gain := 40
  stepLimit := 50
  deadband := 30
  bMin := 100
  eligibility := 200
  roundLength := 10
  requestMin := 2500
  requestMax := 4000
  requestStep := 50
  overLimit := 4500
  overHyst := 500
  supply := 16
  period := 20
  warmUp := 3
  inrush := 6
  motorDeadband := 20
  noticeMask := 0xFFFF#16
  alertMask := 0x0007#16
  modeAtStart := .heating

/-- 02 R37; 03, section 3.2: a room record's defaults. -/
def RoomCfg.factory : RoomCfg where
  kp := 400
  ki := 300
  setback := 300
  floorLimit := none
  staleTime := 30
  fallback := 300
  windowTimeout := 60

/-- 02 R37: a loop record's defaults; loop n names return channel n. -/
def LoopCfg.factory (n : Fin 16) : LoopCfg where
  room := none
  kind := none
  channel := n.castLE (by decide)
  heat := 500
  length := 50
  oMin := 150
  oMax := 1000
  safe := 300
  seed := none

/-- 11 R169: an unwritten window entry. -/
def WindowCfg.factory : WindowCfg where
  loop := none
  quantity := .return
  low := -3000
  high := 9500
  outside := true
  qualifier := 0
  cumulative := false
  threshold := 1
  faults := false

/-- 02 R37: channel n selects input n with trim 0. -/
def ChannelCfg.factory (n : Fin 18) : ChannelCfg where
  input := n
  trim := 0

/-- The whole factory configuration (02, R37). -/
def ImageData.factory : ImageData where
  profile := .factory
  rooms := .fill .factory
  loops := .ofFn .factory
  windows := .fill .factory
  channels := .ofFn .factory
  written := .fill false
  bound := .fill none
  factors := .fill none

/-- 03 R49: a room with its live fields cleared. -/
def Room.cleared (cfg : RoomCfg) (st : RoomState) : Room where
  cfg := cfg
  state := st
  air := none
  setpoint := none
  mode := none
  floor := none
  windowOpen := false
  batteryLow := false
  sinceReport := 0
  windowMark := false
  limited := false
  implausible := false
  windowRounds := 0
  lockout := false
  integrator := 0
  demand := 0

/-- 04 R58, R59, R71: a channel with its live fields as at a start, in a given state. -/
def Channel.cleared (cfg : ChannelCfg) (st : ChannelState) : Channel where
  cfg := cfg
  state := st
  filtered := none
  history := []
  writeIndex := 0
  validRun := 0
  missed := 0
  lastResult := .none
  lastReading := none

/-- 06 R91, R107: a loop record with its live fields cleared. -/
def LoopRec.cleared (cfg : LoopCfg) (st : LoopState) (b : Option Int) : LoopRec where
  cfg := cfg
  state := st
  reason := none
  b := b
  o := 0
  hold := none
  settle := 0
  openRef := none
  settled := false
  degraded := false
  spreadSum := 0
  spreadCount := 0
  spoiled := false

/-- A head that holds no want (09, R143). -/
def Wants.nothing : Wants where
  timing := false
  close := none
  probe := false
  poll := false
  reprobe := false
  drive := false

/-- 09 R157: a head record after a power-up. -/
def Head.fresh : Head where
  present := false
  kind := none
  timing := none
  commanded := none
  acked := none
  position := none
  misses := 0
  unreachable := false
  moving := none
  wants := .nothing
  reswitched := false
  confirming := false
  reprobeCount := 0
  reprobeTiming := .basic
  firstMiss := 0
  missTiming := .basic

/-- 09 R157: the string after a power-up. -/
def StringState.fresh : StringState where
  timing := .basic
  requested := none
  broadcast := none
  lastGroup := 3
  transfer := none
  monitor := .dip
  longDip := false
  resume := none
  order := []

/-- 10 R159: no loop has a record, the queue is empty. -/
def Modulator.fresh : Modulator where
  slotCount := 0
  recs := .fill none
  queue := []

/-- 08 R135: the source record after a power-up or a RESTART. -/
def SourceRecord.reset : SourceRecord where
  state := .unknown
  minimum := none
  maximum := none
  age := Config.sourceResetAge
  lastOrigin := 0

/-- 08 R133, R138: the opening stage after a power-up, with the request minimum of its profile. -/
def OpeningStage.fresh (p : Profile) : OpeningStage where
  alarm := false
  source := .reset
  up := 0
  down := 0
  tReq := p.requestMin
  dMax := 0

/-- 11 R179: a flag after a power-up. -/
def FlagRec.fresh : FlagRec where
  set := false
  index := 255
  value := 0
  pending := false

/-- 06 R107: no exercise. -/
def Exercise.none : Exercise where
  running := false
  list := []
  current := Option.none
  turnDue := false

/-- 01 R16: the ring port after a power-up with the given straps (R14). -/
def RingPort.fresh (straps : Nat) : RingPort where
  station := straps
  insertion := []
  ownSend := []
  out := none
  streak := 0
  ownTag := 0
  pendingCall := none
  deferred := none

/-- 02 section 2.6: an image that has never been written is invalid. -/
def Image.neverWritten : Image where
  data := .factory
  check := 0#16
  complete := false

end Sys2Proof.Machine
end

