-- ==== Sys2Proof/Machine/State.lean ====
section
/-! DEFINITION. The state of the MB16: every register, record, queue and counter the spec gives it,
as plain data, and the queue of commands that wait. -/

namespace Sys2Proof.Machine

/-- The reasons a step could stop with a fault: there is none, since the spec gives every command an
effect (a wrong frame, order or answer sets a flag, is answered, or is ignored). -/
inductive Fault
deriving DecidableEq, Repr

/-- The reasons a step could be refused. -/
inductive Refusal where
  /-- Raised by `exec` for a command that has no meaning yet (safe: the run stops). No arm raises it. -/
  | notModelled (mnemonic : String)
deriving DecidableEq, Repr

/-- The state of the part. -/
structure State where
  /-- the commands that wait, first in, first out -/
  pending : List Instr
  /-- ring port (01) -/
  ring : RingPort
  /-- part mode (02, R30) -/
  mode : PartMode
  /-- control-round expiries since the reference moment, in START (02, R30) -/
  startRounds : Nat
  /-- exercise interval count (02, R31) -/
  interval : Nat
  /-- settings store (02, section 2.6) -/
  store : Store
  /-- table 0 (02, section 2.3) -/
  profile : Profile
  /-- table 1 (03, R38) -/
  binding : Tab 16 BindingEntry
  /-- table 2 (03, section 3.2) -/
  rooms : Tab 12 Room
  /-- tables 5 and 7 (04, R56, R70) -/
  channels : Tab 18 Channel
  /-- the conversion in progress (04, R60) -/
  converter : Option Conversions
  /-- table 3 (06, R89) -/
  loops : Tab 16 LoopRec
  /-- the valve exercise (06, R103) -/
  exercise : Exercise
  /-- round position of the balancing round (07, R110) -/
  roundPos : Nat
  /-- round interruption mark (07, R113) -/
  interrupted : Bool
  /-- opening stage (08) -/
  opening : OpeningStage
  /-- table 6 (09, R141) -/
  heads : Tab 16 Head
  /-- the actuator string (09, R141) -/
  string : StringState
  /-- thermal modulator (10, R159) -/
  modulator : Modulator
  /-- table 4 (11, R169) -/
  windows : Tab 8 Window
  /-- the sixteen flags (11, R174) -/
  flags : Tab 16 FlagRec
deriving DecidableEq, Repr

/-- The station address of the straps at the first power-up. DESIGN CHOICE 4 (unsafe, log entry 1):
the straps are an input; any POWER_UP command sets them. -/
def State.resetStraps : Nat := 4

/-- The part right after its first power-up (DESIGN CHOICE for the values the spec does not give: log
entries 1, 3, 4), the power-up recall still running (02, R33): the state
each chapter gives for a power-up, the factory defaults as working tables, an image never written. -/
def State.reset : State where
  pending := []
  ring := .fresh State.resetStraps
  mode := .start
  startRounds := 0
  interval := 0
  store := { state := .recalling, powerUp := true, requester := none, copy := none,
             image := .neverWritten }
  profile := .factory
  binding := .fill .free
  rooms := .fill (.cleared .factory .unbound)
  channels := .ofFn fun c => .cleared (.factory c) .unused
  converter := none
  loops := .ofFn fun i => .cleared (.factory i) .unbound none
  exercise := .none
  roundPos := 0
  interrupted := true
  opening := .fresh .factory
  heads := .fill .fresh
  string := .fresh
  modulator := .fresh
  windows := .fill { cfg := .factory, count := 0, state := .disarmed }
  flags := .fill .fresh

end Sys2Proof.Machine
end

