-- ==== Sys2Proof/Machine/Ops.lean ====
section
/-! DEFINITION. Shared operations: the arithmetic of 00 (Conventions), the bytes of the ring (01),
the check word (01, R1), and changes of one record of the state. -/

namespace Sys2Proof.Machine

/-! ## Arithmetic -/

/-- Division rounded half-even, symmetrically for negative values (00, Rounding). -/
def divRound (n : Int) (d : Nat) : Int :=
  let q := n.natAbs / d
  let r := n.natAbs % d
  let m := if 2 * r < d ∨ (2 * r = d ∧ q % 2 = 0) then q else q + 1
  if n < 0 then -(m : Int) else (m : Int)

/-- A value clamped to [lo, hi] (00, Rounding). -/
def clampTo (lo hi v : Int) : Int := if v < lo then lo else if hi < v then hi else v

/-- A count raised by one and held at 255. -/
def bump (n : Nat) : Nat := min Config.countCap (n + 1)

/-! ## Bytes of the ring (01, section 1.1) -/

/-- The high byte, then the low byte, of a value as a sixteen-bit two's-complement number. -/
def bytes16 (v : Int) : List Byte :=
  let w := BitVec.ofInt 16 v
  [w.extractLsb' 8 8, w.extractLsb' 0 8]

/-- The signed value of a high and a low byte. -/
def signed16 (hi lo : Byte) : Int := (hi ++ lo : BitVec 16).toInt

/-- Two one-byte numbers as one two-byte detail value. -/
def pairValue (hi lo : Nat) : Int := (256 * hi + lo : Nat)

/-- One bit of R1: the bit combined with the register's top bit decides the generator. -/
def checkBit (c : Word) (b : Bool) : Word :=
  if (c.msb ^^ b) then (c <<< 1) ^^^ 0x1021#16 else c <<< 1

/-- One byte of R1, most significant bit first. -/
def checkByte (c : Word) (x : Byte) : Word :=
  [7, 6, 5, 4, 3, 2, 1, 0].foldl (fun c i => checkBit c (x.getLsbD i)) c

/-- The check word of 01 R1 over a run of bytes. -/
def checkWord (bs : List Byte) : Word := bs.foldl checkByte 0xFFFF#16

/-- The kind codes of the header table. -/
def FrameKind.code : FrameKind → Nat
  | .rrp => 1 | .srp => 2 | .call => 3 | .ord => 4 | .ans => 5 | .ntc => 6

/-- The kind a code names. -/
def FrameKind.ofCode : Nat → Option FrameKind
  | 1 => some .rrp | 2 => some .srp | 3 => some .call | 4 => some .ord | 5 => some .ans
  | 6 => some .ntc | _ => none

/-- Header and payload of a frame, in the order the bytes are sent. -/
def Frame.body (f : Frame) : List Byte :=
  [byteOf f.dest, byteOf f.origin, byteOf f.hop, byteOf f.kind.code, byteOf f.tag,
   byteOf f.payload.length] ++ f.payload

/-- The frame with its check computed afresh (01, R1). -/
def Frame.sealed (f : Frame) : Frame := { f with check := checkWord f.body }

/-! ## Changes of one record -/

/-- One loop record changed. -/
def State.setLoop (s : State) (i : Fin 16) (f : LoopRec → LoopRec) : State :=
  { s with loops := s.loops.modify i f }

/-- One head record changed. -/
def State.setHead (s : State) (i : Fin 16) (f : Head → Head) : State :=
  { s with heads := s.heads.modify i f }

/-- One room record changed. -/
def State.setRoom (s : State) (r : Fin 12) (f : Room → Room) : State :=
  { s with rooms := s.rooms.modify r f }

/-- One channel changed. -/
def State.setChannel (s : State) (c : Fin 18) (f : Channel → Channel) : State :=
  { s with channels := s.channels.modify c f }

/-- One window entry changed. -/
def State.setWindow (s : State) (w : Fin 8) (f : Window → Window) : State :=
  { s with windows := s.windows.modify w f }

/-- One modulation record made, changed or dropped. -/
def State.setRec (s : State) (i : Fin 16) (r : Option ModRec) : State :=
  { s with modulator := { s.modulator with recs := s.modulator.recs.set i r } }

/-- A piece of work done for every index in ascending order. -/
def forEach (n : Nat) (f : Fin n → State → State) (s : State) : State :=
  (List.finRange n).foldl (fun s i => f i s) s

/-- A piece of work done only when a condition holds. -/
def doWhen (c : Bool) (f : State → State) (s : State) : State := if c then f s else s

/-- The driver is SUSPENDED from the entry to DIP until the monitor is GOOD again (09, R154). -/
def State.suspended (s : State) : Bool := s.string.monitor != .good

/-- A loop is bound while its record names a room and a kind other than NONE (06, R89). -/
def LoopCfg.bound (c : LoopCfg) : Bool := c.room.isSome && c.kind.isSome

/-- A loop of the state is bound. -/
def State.bound (s : State) (i : Fin 16) : Bool := (s.loops.get i).cfg.bound

/-- The kind of a bound loop; none for an unbound one. -/
def State.boundKind (s : State) (i : Fin 16) : Option HeadKind :=
  if s.bound i then (s.loops.get i).cfg.kind else none

/-- The outcome of a command that has an effect, or none, and goes on. -/
abbrev Result := Host.Outcome State Fault Refusal

end Sys2Proof.Machine
end

