-- ==== Sys2Proof/Machine/Probe.lean ====
section
/-! DEFINITION. Probe channels: samples, history, filtered value, channel states, references (04). -/

namespace Sys2Proof.Machine

/-! ## One channel -/

/-- 04 R63: the mean of the newest eight samples, or of as many as there are, rounded half-even. -/
def filteredOf (history : List Int) : Option Int :=
  match min Config.filterSamples history.length with
  | 0 => none
  | n + 1 => some (divRound (history.take (n + 1)).sum (n + 1))

/-- What a conversion result is to a channel (04, R61). -/
inductive Sample where
  | valid (t : Int)
  | invalid (last : LastResult) (reading : Option Int)
deriving DecidableEq, Repr

/-- 04 R61: a reading is trimmed and judged against the band. -/
def judgeResult (trim : Int) : Conversion → Sample
  | .reading r =>
    if Config.bandLow ≤ r + trim ∧ r + trim ≤ Config.bandHigh then .valid (r + trim)
    else .invalid .outOfBand (some (r + trim))
  | .openProbe => .invalid .openProbe none
  | .shortProbe => .invalid .shortProbe none

/-- 04 R65, R67: the state after a valid sample that leaves the given valid run. -/
def ChannelState.onValid (run : Nat) : ChannelState → ChannelState
  | .unused => .unused
  | .filling => if Config.freshRun ≤ run then .fresh else .filling
  | .fresh => .fresh
  | .aging => .fresh
  | .lost => if Config.freshRun ≤ run then .fresh else .lost

/-- 04 R65, R66: the state after an invalid sample that leaves the given missed periods count. -/
def ChannelState.onInvalid (missed : Nat) : ChannelState → ChannelState
  | .unused => .unused
  | .filling => if Config.lostPeriods ≤ missed then .lost else .filling
  | .fresh => if Config.agingPeriods ≤ missed then .aging else .fresh
  | .aging => if Config.lostPeriods ≤ missed then .lost else .aging
  | .lost => .lost

/-- 04 R62: a valid sample is taken in. -/
def Channel.takeValid (t : Int) (ch : Channel) : Channel :=
  let history := (t :: ch.history).take Config.historyPlaces
  let run := min Config.freshRun (ch.validRun + 1)
  { ch with history := history
            filtered := filteredOf history
            writeIndex := (ch.writeIndex + 1) % Config.historyPlaces
            validRun := run
            missed := 0
            lastResult := .valid
            lastReading := some t
            state := ch.state.onValid run }

/-- 04 R66, R67: the history is emptied at a loss. -/
def Channel.emptied (ch : Channel) : Channel :=
  { ch with history := [], filtered := none, writeIndex := 0, validRun := 0 }

/-- 04 R64, R66, R67: an invalid sample is taken in. A channel that is LOST afterwards at thirty
missed periods or more has its history emptied. -/
def Channel.takeInvalid (last : LastResult) (reading : Option Int) (ch : Channel) : Channel :=
  let missed := bump ch.missed
  let state := ch.state.onInvalid missed
  let ch := { ch with validRun := 0, missed := missed, lastResult := last, state := state
                      lastReading := reading.orElse fun _ => ch.lastReading }
  if state == .lost && decide (Config.lostPeriods ≤ missed) then ch.emptied else ch

/-- A sample taken in. -/
def Channel.take : Sample → Channel → Channel
  | .valid t => Channel.takeValid t
  | .invalid l r => Channel.takeInvalid l r

/-- 04 R69: a changed trim shifts every sample of the history and F is computed afresh. -/
def Channel.retrim (trim : Int) (ch : Channel) : Channel :=
  let history := ch.history.map (· + (trim - ch.cfg.trim))
  { ch with cfg := { ch.cfg with trim := trim }, history := history, filtered := filteredOf history }

/-- 04 R68: a changed input select restarts a referenced channel. -/
def Channel.reselect (input : Fin 18) (ch : Channel) : Channel :=
  let cfg := { ch.cfg with input := input }
  if ch.state == .unused then { ch with cfg := cfg } else .cleared cfg .filling

/-- 04 R68, R69: a channel's configuration rewritten, input select before trim. -/
def Channel.rewrite (cfg : ChannelCfg) (ch : Channel) : Channel :=
  let ch := if cfg.input == ch.cfg.input then ch else ch.reselect cfg.input
  if cfg.trim == ch.cfg.trim then ch else ch.retrim cfg.trim

/-! ## References (04, R57 to R59) -/

/-- 04 R57: how often a profile and loop records name a channel. -/
def referencesOf (supply : Fin 18) (loops : Tab 16 LoopRec) (c : Fin 18) : Nat :=
  (if supply == c then 1 else 0) + loops.count fun l => l.cfg.bound && l.cfg.channel == c

/-- 04 R57: the references field of a channel. It is counted over the working tables as they stand, so it
shows those of the factory defaults before the power-up recall completes (DEDUCED, log entry 4). -/
def State.references (s : State) (c : Fin 18) : Nat := referencesOf s.profile.supply s.loops c

/-- 04 R58, R59: a channel after a step that changed its count from `before` to `after`. -/
def Channel.recounted (before after : Nat) (ch : Channel) : Channel :=
  if before = 0 ∧ 0 < after then .cleared ch.cfg .filling
  else if 0 < before ∧ after = 0 then .cleared ch.cfg .unused
  else ch

/-- The conversion in progress is discarded when a test holds of its channel (04, R60). -/
def discardWhen (p : Fin 18 → Bool) (c : Option Conversions) : Option Conversions :=
  c.map fun c => { c with discard := c.discard || p c.channel }

/-- 04 R57: the references counted after a step are compared with those before it. -/
def State.recount (old s : State) : State :=
  { s with channels := s.channels.mapIdx fun c ch => ch.recounted (old.references c) (s.references c)
           converter := discardWhen
             (fun c => decide (0 < old.references c ∧ s.references c = 0)) s.converter }

/-- 04 R71, R72: every channel's live fields as at a start, from its references. -/
def channelsAfresh (supply : Fin 18) (loops : Tab 16 LoopRec) (cfgs : Tab 18 ChannelCfg) :
    Tab 18 Channel :=
  cfgs.mapIdx fun c cfg =>
    .cleared cfg (if 0 < referencesOf supply loops c then .filling else .unused)

/-- F of a FRESH channel, none of any other (07 R114; 11 R171). -/
def State.freshValue (s : State) (c : Fin 18) : Option Int :=
  let ch := s.channels.get c
  if ch.state == .fresh then ch.filtered else none

end Sys2Proof.Machine
end

