-- ==== Sys2Proof/Machine/Codes.lean ====
section
/-! DEFINITION. The codes under which the ring carries states, modes and kinds (02, section 2.2). -/

namespace Sys2Proof.Machine

/-- A field that may be absent or none (02, section 2.2). -/
def codeOr {α : Type} (f : α → Int) (v : Option α) : Int := v.elim Config.noneCode f

/-- An on/off or 0/1 field. -/
def codeBool (b : Bool) : Int := if b then 1 else 0

/-- The code of a part mode at start (02, section 2.3). -/
def RunMode.code : RunMode → Nat
  | .heating => 1 | .summer => 2

/-- The code of a part mode (02, R26). -/
def PartMode.code : PartMode → Nat
  | .start => 0 | .heating => 1 | .summer => 2 | .repeater => 3

/-- The code of a room state (03, section 3.2). -/
def RoomState.code : RoomState → Nat
  | .unbound => 0 | .waiting => 1 | .active => 2 | .stale => 3

/-- The code of a room mode (01, section 1.1). -/
def RoomMode.code : RoomMode → Nat
  | .comfort => 0 | .setback => 1 | .off => 2

/-- The code of a channel state (04, R56). -/
def ChannelState.code : ChannelState → Nat
  | .unused => 0 | .filling => 1 | .fresh => 2 | .aging => 3 | .lost => 4

/-- The code of a last result (04, R56). -/
def LastResult.code : LastResult → Nat
  | .valid => 0 | .openProbe => 1 | .shortProbe => 2 | .outOfBand => 3 | .none => 4

/-- The code of an actuator kind (06, R89), which is also a head's reported kind (09, R141). -/
def kindCode : Option HeadKind → Nat
  | none => 0 | some .motor => 1 | some .thermal => 2

/-- The code of a loop state (06, R89). -/
def LoopState.code : LoopState → Nat
  | .unbound => 0 | .closed => 1 | .opening => 2 | .open => 3 | .held => 4 | .fault => 5
  | .exercise => 6

/-- The code of a fault reason (06, R89). -/
def reasonCode : Option FaultReason → Nat
  | none => 0 | some .head => 1 | some .stall => 2 | some .kind => 3 | some .window => 4

/-- The code of a window quantity (11, R169). -/
def Quantity.code : Quantity → Nat
  | .return => 1 | .spread => 2 | .opening => 3

/-- The code of a window state (11, R169). -/
def WindowState.code : WindowState → Nat
  | .disarmed => 0 | .armed => 1 | .tripped => 2

/-- The code of a head's timing (09, R141). -/
def timingCode : HeadTiming → Nat
  | some .basic => 0 | some .fast => 1 | none => 2

end Sys2Proof.Machine
end

