-- ==== Sys2Proof/Machine/Balance.lean ====
section
/-! DEFINITION. The balancing engine (07): accumulation, update, normalisation, seeding. -/

namespace Sys2Proof.Machine

/-! ## The balancing round -/

/-- 07 R111: a loop's accumulation cleared. -/
def LoopRec.clearRound (l : LoopRec) : LoopRec :=
  { l with spreadSum := 0, spreadCount := 0, spoiled := false }

/-- 07 R111: the balancing round is restarted. The round interruption mark is not touched. -/
def State.restartRound (s : State) : State :=
  { s with roundPos := 0, loops := s.loops.map LoopRec.clearRound }

/-- 07 R115: a loop is spoiled; unbound loops keep the mark at 0 (R114). -/
def LoopRec.spoil (l : LoopRec) : LoopRec := if l.cfg.bound then { l with spoiled := true } else l

/-- 07 R115: every bound loop that meets a test is spoiled. -/
def State.spoilWhere (s : State) (p : LoopRec → Bool) : State :=
  { s with loops := s.loops.map fun l => if p l then l.spoil else l }

/-- 07 R114: the spread of a loop, when both channels are FRESH. -/
def State.spread (s : State) (l : LoopRec) : Option Int :=
  match s.freshValue s.profile.supply, s.freshValue l.cfg.channel with
  | some a, some b => some (a - b)
  | _, _ => none

/-- 07 R114: the spread that a loop adds at an accumulation; none when a condition spoils it. -/
def State.goodSpread (s : State) (l : LoopRec) : Option Int :=
  if l.state == .open && decide (s.profile.eligibility ≤ l.o) && !s.interrupted then
    (s.spread l).filter fun x => decide (0 ≤ x ∧ x ≤ Config.spreadHigh)
  else none

/-- 07 R114: one loop's accumulation. -/
def State.accumulate (s : State) (l : LoopRec) : LoopRec :=
  if l.cfg.bound && !l.spoiled then
    match s.goodSpread l with
    | some x => { l with spreadSum := l.spreadSum + x, spreadCount := l.spreadCount + 1 }
    | none => { l with spoiled := true }
  else l

/-! ## The update (07, R116, R117) -/

/-- 07 R116: a loop qualifies when it is bound, not spoiled and has R spreads. -/
def LoopRec.qualifies (r : Nat) (l : LoopRec) : Bool :=
  l.cfg.bound && !l.spoiled && l.spreadCount == r

/-- 07 R116: the factor worked out anew from the spread sum. -/
def updatedFactor (p : Profile) (sum b : Int) : Int :=
  let err := divRound sum p.roundLength - p.spreadTarget
  if (err.natAbs : Int) ≤ p.deadband then b
  else clampTo p.bMin Config.full
    (b + clampTo (-p.stepLimit) p.stepLimit (divRound (err * p.gain) 100))

/-- 07 R116: a qualifying loop's B is updated. -/
def LoopRec.update (p : Profile) (l : LoopRec) : LoopRec :=
  if l.qualifies p.roundLength then { l with b := l.b.map (updatedFactor p l.spreadSum) } else l

/-- 07 R117: the largest B among all bound loops (0 when there is none). -/
def largestFactor (loops : Tab 16 LoopRec) : Int :=
  loops.toList.foldl (fun m l => if l.cfg.bound then max m (l.b.getD 0) else m) 0

/-- 07 R117: every bound loop's B scaled so that the largest becomes 1000. -/
def normalise (loops : Tab 16 LoopRec) : Tab 16 LoopRec :=
  let m := largestFactor loops
  if 0 < m ∧ m < Config.full then
    loops.map fun l =>
      if l.cfg.bound then { l with b := l.b.map fun b => divRound (b * 1000) m.toNat } else l
  else loops

/-- 07 R116, R117: update and, when a loop qualified, normalisation. -/
def balanceUpdate (p : Profile) (loops : Tab 16 LoopRec) : Tab 16 LoopRec :=
  let updated := loops.map (LoopRec.update p)
  if loops.any (LoopRec.qualifies p.roundLength) then normalise updated else updated

/-- 07 R111, R112, R118: the engine's step at an expiry in HEATING: accumulation, the round position
raised and, when it reaches R, the update and a new round. -/
def State.heatingRound (s : State) : State :=
  let loops := s.loops.map s.accumulate
  if s.profile.roundLength ≤ s.roundPos + 1 then
    State.restartRound { s with loops := balanceUpdate s.profile loops }
  else { s with loops := loops, roundPos := s.roundPos + 1 }

/-- 07 R113: the mark for the control round that begins. -/
def State.remark (s : State) : State :=
  { s with interrupted := s.opening.source.state != .run || s.opening.alarm }

/-- 07 R112, R113: the balancing engine at a control-round expiry. -/
def State.balanceExpiry (s : State) : State :=
  (doWhen (s.mode == .heating) State.heatingRound s).remark

/-! ## Seeding (07, R119 to R121) and B_min (R122) -/

/-- 07 R119: N of a loop. -/
def LoopCfg.size (c : LoopCfg) : Int := c.heat * c.length

/-- 07 R119: N_max over all bound loops. -/
def largestSize (loops : Tab 16 LoopRec) : Int :=
  loops.toList.foldl (fun m l => if l.cfg.bound then max m l.cfg.size else m) 0

/-- 07 R119: a loop's seed against N_max. -/
def seedOf (bMin nMax : Int) (c : LoopCfg) : Int :=
  match c.seed with
  | some f => clampTo bMin Config.full f
  | none => clampTo bMin Config.full (divRound (1000 * c.size) nMax.toNat)

/-- 07 R120: a newly bound loop is seeded alone. -/
def State.seedLoop (s : State) (i : Fin 16) : State :=
  s.setLoop i fun l => { l with b := some (seedOf s.profile.bMin (largestSize s.loops) l.cfg) }

/-- 07 R121: RESEED seeds and spoils every bound loop. -/
def State.reseedAll (s : State) : State :=
  let n := largestSize s.loops
  { s with loops := s.loops.map fun l =>
      if l.cfg.bound then { l with b := some (seedOf s.profile.bMin n l.cfg), spoiled := true }
      else l }

/-- 07 R122: a raised B_min lifts and spoils every bound loop whose B lies below it. -/
def State.raiseBMin (s : State) : State :=
  { s with loops := s.loops.map fun l =>
      match l.b with
      | some b =>
        if l.cfg.bound && decide (b < s.profile.bMin) then
          { l with b := some s.profile.bMin, spoiled := true }
        else l
      | none => l }

end Sys2Proof.Machine
end

