-- ==== Sys2Proof/Machine/Ring.lean ====
section
/-! DEFINITION. The ring port's queues and arbiter (01, R6 to R12), on the ring port alone. -/

namespace Sys2Proof.Machine

/-- 01 R9: the arbiter's choice, made when the out-port is IDLE. -/
def RingPort.choose (r : RingPort) : RingPort :=
  match r.insertion, r.ownSend with
  | [], [] => { r with out := none }
  | f :: ins, [] => { r with insertion := ins, out := some f, streak := 0 }
  | [], f :: own => { r with ownSend := own, out := some f, streak := 0 }
  | f :: ins, g :: own =>
      if r.streak < Config.streakLimit then
        { r with insertion := ins, out := some f, streak := r.streak + 1 }
      else { r with ownSend := own, out := some g, streak := 0 }

/-- 01 R8: an IDLE out-port with a frame waiting chooses at once. -/
def RingPort.mustChoose (r : RingPort) : Bool :=
  r.out.isNone && !(r.insertion.isEmpty && r.ownSend.isEmpty)

/-- An originated frame placed at the tail of the own-send queue. -/
def RingPort.push (r : RingPort) (f : Frame) : RingPort := { r with ownSend := r.ownSend ++ [f] }

/-- 01 R10: the next value of the own tag counter. -/
def RingPort.nextTag (r : RingPort) : Nat := (r.ownTag + 1) % 256

/-- 01 R10: a CALL or NTC frame with the next tag. -/
def RingPort.ownFrame (r : RingPort) (kind : FrameKind) (dest : Nat) (payload : List Byte) : Frame :=
  Frame.sealed { dest := dest, origin := r.station, hop := Config.originHop, kind := kind,
                 tag := r.nextTag, payload := payload, check := 0#16 }

/-- 01 R10: an ANS frame goes to the origin of the order with the order's tag. -/
def RingPort.answerFrame (r : RingPort) (origin tag : Nat) (payload : List Byte) : Frame :=
  Frame.sealed { dest := origin, origin := r.station, hop := Config.originHop, kind := .ans,
                 tag := tag, payload := payload, check := 0#16 }

/-- A CALL or NTC frame enters at the tail and the tag counter advances (01, R10). -/
def RingPort.pushOwn (r : RingPort) (kind : FrameKind) (dest : Nat) (payload : List Byte) :
    RingPort :=
  { r with ownSend := r.ownSend ++ [r.ownFrame kind dest payload], ownTag := r.nextTag }

/-- Is this frame a CALL? -/
def Frame.isCall (f : Frame) : Bool := f.kind == .call

/-- 01 R12: a CALL offered by the opening stage replaces a queued CALL in place, enters at the tail,
or becomes the pending CALL value. -/
def RingPort.offerCall (r : RingPort) (payload : List Byte) : RingPort :=
  if r.ownSend.any Frame.isCall then
    { r with ownSend := r.ownSend.map fun f => if f.isCall then r.ownFrame .call 0 payload else f
             ownTag := r.nextTag }
  else if r.ownSend.length < Config.ownPlaces then r.pushOwn .call 0 payload
  else { r with pendingCall := some payload }

end Sys2Proof.Machine
end

