-- ==== Sys2Proof/Machine/Flags.lean ====
section
/-! DEFINITION. The notice unit: the sixteen sticky flags, the pending-notice set, NTC frames and
the ALERT output (11, section 11.3 on), and the filling of free own-send places (01, R11). -/

namespace Sys2Proof.Machine

/-- The flag's number (11, section 11.3). -/
def Flag.number : Flag → Fin 16
  | .supplyOvertemp => 0 | .supplyLost => 1 | .headFault => 2 | .windowTrip => 3
  | .kindMismatch => 4 | .storeFailed => 5 | .sourceStale => 6 | .roomStale => 7
  | .floorLimit => 8 | .channelLost => 9 | .stringSupply => 10 | .storeEmpty => 11
  | .ringCheck => 12 | .ringOverrun => 13 | .orderDropped => 14 | .inrushStarved => 15

/-- The priority of a flag number (11, section 11.3). -/
def flagPriority (n : Fin 16) : Nat :=
  if n.val = 0 then 3 else if n.val ≤ 5 then 2 else if n.val ≤ 11 then 1 else 0

/-- 11 R175: a flag's notice is enabled by its mask bit, or by priority 3. -/
def noticeEnabled (mask : Word) (n : Fin 16) : Bool :=
  mask.getLsbD n.val || flagPriority n == 3

/-- 11 R176: the highest priority present, and of that priority the lowest flag number. -/
def chooseNotice (fl : Tab 16 FlagRec) : Option (Fin 16) :=
  [3, 2, 1, 0].findSome? fun p =>
    (List.finRange 16).find? fun n => (fl.get n).pending && flagPriority n == p

/-- The payload of an NTC frame (01, section 1.1; 11, R176). -/
def noticePayload (n : Fin 16) (f : FlagRec) : List Byte :=
  [byteOf n.val, byteOf (flagPriority n), byteOf f.index] ++ bytes16 f.value

/-- One move of the ring port: the arbiter's choice (01, R8, R9), else the next claimant of a free
own-send place (01, R11). `none` when nothing is to be done. -/
def settleStep (manager : Nat) (repeater : Bool) (p : RingPort × Tab 16 FlagRec) :
    Option (RingPort × Tab 16 FlagRec) :=
  if p.1.mustChoose then some (p.1.choose, p.2)
  else if p.1.ownSend.length < Config.ownPlaces then
    match p.1.deferred, p.1.pendingCall with
    | some f, _ => some ({ p.1 with deferred := none }.push f, p.2)
    | none, some c => some ({ p.1 with pendingCall := none }.pushOwn .call 0 c, p.2)
    | none, none =>
        if p.1.ownSend.length < Config.noticeRoom && !repeater then
          match chooseNotice p.2 with
          | some n =>
              some (p.1.pushOwn .ntc manager (noticePayload n (p.2.get n)),
                p.2.modify n fun f => { f with pending := false })
          | none => none
        else none
  else none

/-- The moves of the ring port, one after the other, until none is left. -/
def settleLoop (manager : Nat) (repeater : Bool) :
    Nat → RingPort × Tab 16 FlagRec → RingPort × Tab 16 FlagRec
  | 0, p => p
  | k + 1, p =>
    match settleStep manager repeater p with
    | some p' => settleLoop manager repeater k p'
    | none => p

/-- 01 R8, R11: after any change of a queue, of the out-port or of the pending-notice set, the
choices and entries that are due are made at once. An own-send queue of eight places and one choice
leave at most ten moves. -/
def State.settle (s : State) : State :=
  let p := settleLoop s.profile.manager (s.mode == .repeater) 12 (s.ring, s.flags)
  { s with ring := p.1, flags := p.2 }

/-- 11 R174, R175: an event sets its flag and replaces the kept detail; a change from clear to set
offers the flag to the pending-notice set. -/
def FlagRec.raise (enabled : Bool) (index : Nat) (value : Int) (f : FlagRec) : FlagRec :=
  { set := true, index := index, value := value, pending := f.pending || (!f.set && enabled) }

/-- An event sets a flag (11, R174), and a notice that finds room is queued at once (11, R176). -/
def State.raiseFlag (s : State) (f : Flag) (index : Nat) (value : Int) : State :=
  let enabled := noticeEnabled s.profile.noticeMask f.number
  State.settle { s with flags := s.flags.modify f.number (FlagRec.raise enabled index value) }

/-- 11 R177: the named flags are cleared and leave the pending-notice set; details are kept. -/
def clearFlags (names : Word) (fl : Tab 16 FlagRec) : Tab 16 FlagRec :=
  fl.mapIdx fun n f => if names.getLsbD n.val then { f with set := false, pending := false } else f

/-- 11 R175: a flag whose mask bit is turned off leaves the pending-notice set unless it has
priority 3. -/
def dropMasked (old new : Word) (fl : Tab 16 FlagRec) : Tab 16 FlagRec :=
  fl.mapIdx fun n f =>
    if old.getLsbD n.val && !noticeEnabled new n then { f with pending := false } else f

/-- 11 R178: ALERT is driven while a flag of the alert route mask is set. -/
def State.alert (s : State) : Bool :=
  (List.finRange 16).any fun n => (s.flags.get n).set && s.profile.alertMask.getLsbD n.val

/-- The set flags as sixteen bits (02, R26). -/
def State.flagBits (s : State) : Nat :=
  (List.finRange 16).foldl (fun a n => if (s.flags.get n).set then a + 2 ^ n.val else a) 0

/-- 01 R12: the opening stage offers a CALL; the ring port queues it, and it may be sent at once. -/
def State.offerCall (s : State) (payload : List Byte) : State :=
  State.settle { s with ring := s.ring.offerCall payload }

end Sys2Proof.Machine
end

