-- ==== Sys2Proof/Machine/Wants.lean ====
section
/-! DEFINITION. What the heads wait for: the wants, the judgement of the drive want and the pending
sets (09, R143 to R145). -/

namespace Sys2Proof.Machine

/-- A head holds at least one want (09, R145). -/
def Wants.some? (w : Wants) : Bool :=
  w.timing || w.close.isSome || w.probe || w.poll || w.reprobe || w.drive

/-- A command to this head is on the string (09, R145). -/
def State.inFlight (s : State) (h : Fin 16) : Bool :=
  match s.string.transfer with
  | some t => t.head == h
  | none => false

/-- 09 R144: is a drive want to be made, for a head of a bound loop of the given kind? -/
def driveNeeded (deadband : Int) (kind : HeadKind) (h : Head) : Bool :=
  match h.commanded with
  | none => false
  | some c =>
    !h.unreachable && (h.kind.isNone || h.kind == some kind) &&
      match h.acked with
      | none => true
      | some a =>
        decide (c ≠ a) &&
          (kind == .thermal || decide (deadband ≤ (c - a).natAbs) || decide (c = 0)
            || decide (c = Config.full) || decide (a = 0))

/-- 09 R143: a drive want is made, which drops a poll want. -/
def Head.wantDrive (h : Head) : Head := { h with wants := { h.wants with drive := true, poll := false } }

/-- 09 R144: the drive want is judged. A MOVE want newly made is reported to the loop records, which
clear the head settled mark (06, R96). -/
def State.judgeDrive (s : State) (i : Fin 16) : State :=
  match s.boundKind i with
  | none => s
  | some k =>
    if driveNeeded s.profile.motorDeadband k (s.heads.get i) then
      let made := !(s.heads.get i).wants.drive
      doWhen (made && k == .motor) (fun s => s.setLoop i fun l => { l with settled := false })
        (s.setHead i Head.wantDrive)
    else s

/-- 09 R144: a commanded value is handed over and judged. -/
def State.handCommanded (s : State) (i : Fin 16) (v : Int) : State :=
  (s.setHead i fun h => { h with commanded := some v }).judgeDrive i

/-- 09 R143: a probe want is made. -/
def State.wantProbe (s : State) (i : Fin 16) : State :=
  s.setHead i fun h => { h with wants := { h.wants with probe := true } }

/-- 06 R92; 09 R143: a close request under a given kind; none is made for an UNREACHABLE head. A later
request takes the place of one still waiting, and its kind counts (DESIGN CHOICE, log entry 39: a head has
one close want, and R143 does not say which of two kinds it keeps). -/
def State.requestClose (s : State) (i : Fin 16) (kind : HeadKind) : State :=
  s.setHead i fun h =>
    if h.unreachable then h
    else { h with commanded := some 0, wants := { h.wants with close := some kind } }

/-- 09 R145: the pending sets after a step. A head that has lost its wants leaves; heads that enter
in one step do so in ascending position order. -/
def State.refreshOrder (s : State) : State :=
  let wants := fun h : Fin 16 => (s.heads.get h).wants.some?
  let stay := s.string.order.filter wants
  let enter := (List.finRange 16).filter fun h =>
    wants h && !s.string.order.contains h && !s.inFlight h
  { s with string := { s.string with order := stay ++ enter } }

/-- A head's command has its outcome: it re-enters the pending set, if at all, as the latest. -/
def State.leaveOrder (s : State) (h : Fin 16) : State :=
  { s with string := { s.string with order := s.string.order.filter (· != h) } }

/-- The head is in the pending set of its group (09, R145). -/
def State.isPending (s : State) (h : Fin 16) : Bool :=
  (s.heads.get h).wants.some? && !s.inFlight h

/-- The end of every step: the pending sets are brought up to date (09, R145) and the machine goes
on. -/
def State.done (s : State) : Result := .next s.refreshOrder

end Sys2Proof.Machine
end

