-- ==== Sys2Proof/Machine/Modulator.lean ====
section
/-! DEFINITION. Thermal modulation and inrush arbitration (10, R159 to R167). -/

namespace Sys2Proof.Machine

/-- 10 R159: a loop's period phase. -/
def modPhase (period : Nat) (i : Fin 16) : Nat := (i.val % 4) * (period / 4)

/-- 10 R159: the warm-up set holds every loop in GRANTED or WARMING. -/
def ModRec.inWarmUp (r : ModRec) : Bool := r.state == .granted || r.state == .warming

/-- The size of the warm-up set. -/
def State.warmUps (s : State) : Nat :=
  s.modulator.recs.count fun r => r.elim false ModRec.inWarmUp

/-- The waiting queue changed. -/
def State.setQueue (s : State) (q : List (Fin 16)) : State :=
  { s with modulator := { s.modulator with queue := q } }

/-- 06 R105: an open phase's count starts at the acknowledged switch-on, or at a grant
that starts the warm-up as if it had just been acknowledged (10, R161; DEDUCED, log entry 30). -/
def State.startCount (s : State) (h : Fin 16) : State :=
  match s.exercise.current with
  | some t =>
    if t.loop = h ∧ t.phase = .open ∧ t.count = none then
      { s with exercise := { s.exercise with current := some { t with count := some 0 } } }
    else s
  | none => s

/-- 10 R161: one grant, when the queue is not empty and the warm-up set has room. A head already on
for which the driver makes no drive want starts its warm-up at once. A head that still holds an earlier
drive want counts as one with a drive want, and waits in GRANTED for the SWITCH to be acknowledged (DESIGN
CHOICE, log entry 47: R161 does not speak of a want held from before). -/
def State.grantStep (s : State) : Option State :=
  match s.modulator.queue with
  | [] => none
  | i :: rest =>
    if s.warmUps < s.profile.inrush then
      match s.modulator.recs.get i with
      | none => some (s.setQueue rest)
      | some r =>
        let t := ((s.setQueue rest).setRec i (some { r with state := .granted })).handCommanded i
          Config.full
        let h := t.heads.get i
        if h.acked == some Config.full && !h.wants.drive then
          some ((t.setRec i (some { r with state := .warming, warmCount := 0 })).startCount i)
        else some t
    else none

/-- 10 R161: grants are made one after another while they can be. The queue holds at most sixteen
loops. -/
def grantLoop : Nat → State → State
  | 0, s => s
  | k + 1, s =>
    match s.grantStep with
    | some t => grantLoop k t
    | none => s

/-- 10 R161: all grants that are due. -/
def State.grants (s : State) : State := grantLoop 16 s

/-- 10 R163: the switch-off, but for the grants that follow it. The record becomes IDLE and the driver is
handed off. -/
def State.switchedOff (s : State) (i : Fin 16) (r : ModRec) : State :=
  (s.setRec i (some { r with state := .idle, warmCount := 0 })).handCommanded i 0

/-- 10 R163: the switch-off; grants follow. -/
def State.switchOff (s : State) (i : Fin 16) (r : ModRec) : State := (s.switchedOff i r).grants

/-- A waiting request is withdrawn from the queue and the record becomes IDLE. -/
def State.withdraw (s : State) (i : Fin 16) (r : ModRec) : State :=
  (s.setQueue (s.modulator.queue.filter (· != i))).setRec i (some { r with state := .idle })

/-- 10 R164, R166: a loop's request is withdrawn or its head switched off, whichever applies. -/
def State.modIdle (s : State) (i : Fin 16) : State :=
  match s.modulator.recs.get i with
  | none => s
  | some r =>
    match r.state with
    | .idle => s
    | .waiting => s.withdraw i r
    | .granted => s.switchOff i r
    | .warming => s.switchOff i r
    | .on => s.switchOff i r

/-- 10 R159: the record of a loop that becomes THERMAL and bound; the driver is handed off. -/
def State.makeRec (s : State) (i : Fin 16) : State :=
  let p := s.profile.period
  let pos := (s.modulator.slotCount + p - modPhase p i) % p
  (s.setRec i (some { state := .idle, onSlots := 0, slotPos := pos, warmCount := 0,
                      starved := false })).handCommanded i 0

/-- 10 R159: the record of a loop that stops being THERMAL and bound; room in the warm-up set is
granted. -/
def State.dropRec (s : State) (i : Fin 16) : State :=
  ((s.setQueue (s.modulator.queue.filter (· != i))).setRec i none).grants

/-- 10 R166: the request of an exercise open phase joins the queue at the tail; grants follow. -/
def State.exerciseRequest (s : State) (i : Fin 16) : State :=
  match s.modulator.recs.get i with
  | none => s
  | some r =>
    ((s.setQueue (s.modulator.queue.filter (· != i) ++ [i])).setRec i
      (some { r with state := .waiting })).grants

/-- 10 R162: an acknowledged SWITCH on makes a GRANTED record WARMING. -/
def State.switchOnAcked (s : State) (i : Fin 16) : State :=
  match s.modulator.recs.get i with
  | none => s
  | some r =>
    if r.state == .granted then s.setRec i (some { r with state := .warming, warmCount := 0 }) else s

/-- 10 R162: a SWITCH on that the driver discarded makes the record IDLE; the head is then commanded
off, as an IDLE record's head is (R159; DEDUCED, log entry 26). -/
def State.notCarriedOut (s : State) (i : Fin 16) : State :=
  match s.modulator.recs.get i with
  | none => s
  | some r => if r.inWarmUp || r.state == .on then s.switchOff i r else s

/-- 10 R165: the alarm empties the queue and the warm-up set and hands off for every THERMAL loop. -/
def State.modAlarm (s : State) : State :=
  let idle := s.modulator.recs.map fun r =>
    r.map fun r => { r with state := ModState.idle, warmCount := 0 }
  forEach 16 (fun i s => if (s.modulator.recs.get i).isSome then s.handCommanded i 0 else s)
    { s with modulator := { s.modulator with recs := idle, queue := [] } }

/-! ## The control-round expiry (10, R160, R162, R163) -/

/-- The loop's head has settled in the modulator's sense: reported to an OPENING loop (10, R162). -/
def State.reportSettled (s : State) (i : Fin 16) : State :=
  if (s.loops.get i).state == .opening then s.setLoop i fun l => { l with settled := true } else s

/-- 10 R160, R162: at an expiry the slot position rises, held at 60, and so does the warm-up count of
a WARMING record. -/
def ModRec.tick (r : ModRec) : ModRec :=
  { r with slotPos := min Config.slotCap (r.slotPos + 1)
           warmCount := if r.state == .warming then r.warmCount + 1 else r.warmCount }

/-- 10 R162: a WARMING record whose count has reached the profile's warm-up becomes ON, an OPENING
loop is reported settled, and grants follow. -/
def State.warmComplete (s : State) (i : Fin 16) : State :=
  match s.modulator.recs.get i with
  | none => s
  | some r =>
    if r.state == .warming && decide (s.profile.warmUp ≤ r.warmCount) then
      ((s.setRec i (some { r with state := .on })).reportSettled i).grants
    else s

/-- The loop is in EXERCISE and so not modulated (10, R166). -/
def State.exercising (s : State) (i : Fin 16) : Bool := (s.loops.get i).state == .exercise

/-- 10 R163: a waiting request is withdrawn as starved. -/
def State.starve (s : State) (i : Fin 16) (r : ModRec) : State :=
  (s.withdraw i { r with starved := true }).raiseFlag .inrushStarved i.val r.onSlots

/-- 10 R163: the switch-off slot of a loop. `starts` says that its period start falls at the same
expiry, which withdraws a waiting request and leaves a head that is on to the period start. -/
def State.switchSlot (s : State) (i : Fin 16) (starts : Bool) : State :=
  match s.modulator.recs.get i with
  | none => s
  | some r =>
    let reached := r.slotPos == r.onSlots
    match r.state with
    | .idle => s
    | .waiting => if reached || starts then s.starve i r else s
    | .granted => if reached && !starts then s.switchOff i r else s
    | .warming => if reached && !starts then s.switchOff i r else s
    | .on => if reached && !starts then s.switchOff i r else s

/-- 10 R160: on-slots worked out from an opening target. -/
def onSlotsOf (p : Profile) (o : Int) : Nat :=
  let n := (divRound (o * p.period) 1000).toNat
  if n = 0 then 0 else min p.period (n + p.warmUp)

/-- 10 R160: does the loop's period start make a request? -/
def State.joins (s : State) (i : Fin 16) : Bool :=
  match s.modulator.recs.get i with
  | none => false
  | some r => r.state == .idle && decide (0 < onSlotsOf s.profile (s.loops.get i).o)

/-- The loop's record carries the starved mark. -/
def State.starvedMark (s : State) (i : Fin 16) : Bool :=
  (s.modulator.recs.get i).elim false ModRec.starved

/-- 10 R160: the period start of one loop, but for its joining of the queue and for the grants, which
follow once all joins of the expiry are made. A head that is on after a change of the thermal period stays
on where its new on-slots are above 0 (DESIGN CHOICE, log entry 46: R160 names this case among its head-on
cases, R167 has the head switched off at its next period start). -/
def State.startPeriod (s : State) (i : Fin 16) : State :=
  match s.modulator.recs.get i with
  | none => s
  | some r =>
    let n := onSlotsOf s.profile (s.loops.get i).o
    let r' := { r with onSlots := n, slotPos := 0, starved := false }
    match r.state with
    | .idle => s.setRec i (some (if n = 0 then r' else { r' with state := .waiting }))
    | .waiting => s.setRec i (some r')
    | .granted => if n = 0 then s.switchedOff i r' else s.setRec i (some r')
    | .warming => if n = 0 then s.switchedOff i r' else s.setRec i (some r')
    | .on => if n = 0 then s.switchedOff i r' else s.setRec i (some r')

/-- 10 R160: the period starts of an expiry: starved loops join at the head of the queue, the others
at the tail, each in ascending order, and the grants follow. -/
def State.startPeriods (s : State) (starters : List (Fin 16)) : State :=
  let first := starters.filter fun i => s.joins i && s.starvedMark i
  let last := starters.filter fun i => s.joins i && !s.starvedMark i
  let t := starters.foldl (fun t i => t.startPeriod i) s
  (t.setQueue (first ++ t.modulator.queue ++ last)).grants

/-- The modulated loops: those with a record that are not in EXERCISE. -/
def State.modulated (s : State) (i : Fin 16) : Bool :=
  (s.modulator.recs.get i).isSome && !s.exercising i

/-- 10 R162: the settled report made at every expiry for ON records of OPENING loops. -/
def State.reportOn (s : State) (i : Fin 16) : State :=
  if (s.modulator.recs.get i).elim false (fun r => r.state == .on) then s.reportSettled i else s

/-- 10 R160: the modulator's work at a control-round expiry, the targets handed over. -/
def State.modExpiry (s : State) : State :=
  let p := s.profile.period
  let slot := (s.modulator.slotCount + 1) % p
  let starts := fun i : Fin 16 => slot == modPhase p i
  let ticked := s.modulator.recs.map fun r => r.map ModRec.tick
  let s := { s with modulator := { s.modulator with slotCount := slot, recs := ticked } }
  let s := forEach 16 (fun i s => s.warmComplete i) s
  let s := forEach 16 (fun i s => if s.modulated i then s.switchSlot i (starts i) else s) s
  let s := s.startPeriods ((List.finRange 16).filter fun i => starts i && s.modulated i)
  forEach 16 (fun i s => s.reportOn i) s

/-- 10 R159, R167: a new profile is put in place; a changed thermal period restarts the modulation slot
count, from which the slot position of a record made in the same step is worked out. -/
def State.takeProfile (s : State) (new : Profile) : State :=
  { s with profile := new
           modulator := { s.modulator with
             slotCount := if s.profile.period = new.period then s.modulator.slotCount else 0 } }

/-- 10 R167: a raised inrush limit lets grants be made at once. -/
def State.modProfile (s : State) (old : Profile) : State :=
  doWhen (decide (old.inrush < s.profile.inrush)) State.grants s

end Sys2Proof.Machine
end

