-- ==== Sys2Proof/Machine/Rooms.lean ====
section
/-! DEFINITION. Room records (03, section 3.2) and the room controller (05). -/

namespace Sys2Proof.Machine

/-- A room report as delivered (01, section 1.1): presence bits 0 to 2 and the reported values. -/
structure Report where
  air : Int
  setpoint : Int
  mode : RoomMode
  floor : Option Int
  windowOpen : Bool
  batteryLow : Bool
deriving DecidableEq, Repr

/-! ## Taking in a report (03, R51, R53, R54) -/

/-- 03 R51: air temperature. -/
def Room.takeAir (t : Int) (r : Room) : Room :=
  if Config.airLow ≤ t ∧ t ≤ Config.airHigh then
    { r with air := some t, implausible := false, sinceReport := 0
             state := if r.state == .unbound then .unbound else .active }
  else { r with implausible := true }

/-- 03 R53: the window bit. -/
def Room.takeWindow (isOpen : Bool) (r : Room) : Room :=
  let r := { r with windowOpen := isOpen }
  if isOpen then
    if r.windowMark || r.lockout then r else { r with windowMark := true, windowRounds := 0 }
  else if r.windowMark then { r with windowMark := false, windowRounds := 0, lockout := false }
  else { r with lockout := false }

/-- 03 R54: does this floor temperature reach the room's floor limit? -/
def Room.floorReached (f : Int) (r : Room) : Bool := r.cfg.floorLimit.elim false fun l => l ≤ f

/-- 03 R54: the floor temperature, when the report carries one. -/
def Room.takeFloor (floor : Option Int) (r : Room) : Room :=
  match floor with
  | none => r
  | some f =>
    let r := { r with floor := some f }
    match r.cfg.floorLimit with
    | none => r
    | some l =>
      if l ≤ f then { r with limited := true }
      else if f ≤ l - Config.floorHysteresis then { r with limited := false }
      else r

/-- 03 R51: a report taken in, field by field. -/
def Room.takeReport (p : Report) (r : Room) : Room :=
  let r := r.takeAir p.air
  let r := { r with setpoint := some (clampTo Config.setpointLow Config.setpointHigh p.setpoint)
                    mode := some p.mode, batteryLow := p.batteryLow }
  (r.takeWindow p.windowOpen).takeFloor p.floor

/-- 03 R51, R54: the record of a room takes in a report; a floor temperature at or above the limit
sets FLOOR_LIMIT. -/
def State.takeReport (s : State) (room : Fin 12) (p : Report) : State :=
  let t := s.setRoom room (Room.takeReport p)
  match p.floor with
  | none => t
  | some f => if (s.rooms.get room).floorReached f then t.raiseFlag .floorLimit room.val f else t

/-! ## Ageing (03, R52, R53) -/

/-- 03 R52: a bound room's rounds since report rise. -/
def Room.ageReport (r : Room) : Room :=
  if r.state == .unbound then r else { r with sinceReport := bump r.sinceReport }

/-- 03 R52: a WAITING or ACTIVE room whose count has reached its stale time. -/
def Room.goesStale (r : Room) : Bool :=
  (r.state == .waiting || r.state == .active) && decide (r.cfg.staleTime ≤ r.sinceReport)

/-- 03 R52: one room's rounds since report age; at the stale time the room becomes STALE and
ROOM_STALE is set. -/
def State.ageReport (s : State) (room : Fin 12) : State :=
  let r := (s.rooms.get room).ageReport
  if r.goesStale then
    (s.setRoom room fun _ => { r with state := .stale }).raiseFlag .roomStale room.val r.sinceReport
  else s.setRoom room fun _ => r

/-- 03 R53: the window rounds of a room with the WINDOW mark reach its timeout at this expiry. -/
def Room.windowTimesOut (r : Room) : Bool :=
  r.state != .unbound && r.windowMark && decide (r.cfg.windowTimeout ≤ r.windowRounds + 1)

/-- 03 R53: the WINDOW mark ages; at the timeout it is lifted and the lockout is set. -/
def Room.ageWindow (r : Room) : Room :=
  if r.windowTimesOut then { r with windowMark := false, windowRounds := 0, lockout := true }
  else if r.state != .unbound && r.windowMark then { r with windowRounds := r.windowRounds + 1 }
  else r

/-- 03 R51 to R53: one room ages at a control-round expiry. -/
def State.ageRoom (s : State) (room : Fin 12) : State :=
  (s.ageReport room).setRoom room Room.ageWindow

/-! ## Demand (05) -/

/-- 05 R79: the effective setpoint; none while setpoint or mode is absent. -/
def Room.effective (r : Room) : Option Int :=
  match r.setpoint, r.mode with
  | some t, some .comfort => some t
  | some t, some .setback => some (t - r.cfg.setback)
  | some _, some .off => some Config.frostGuard
  | _, _ => none

/-- 05 R80: the clamped error. -/
def roomError (effective air : Int) : Int :=
  clampTo (-Config.errorLimit) Config.errorLimit (effective - air)

/-- 05 R82: the integrator under conditional integration, `previous` being the previous demand. -/
def nextIntegrator (ki previous integrator e : Int) : Int :=
  if (previous = Config.full ∧ 0 < e) ∨ (previous = 0 ∧ e < 0) then integrator
  else clampTo 0 Config.full (integrator + divRound (e * ki) 6000)

/-- 05 R80 to R83: the regulated treatment with its error. -/
def Room.regulate (e : Int) (r : Room) : Room :=
  let i := nextIntegrator r.cfg.ki r.demand r.integrator e
  { r with integrator := i
           demand := clampTo 0 Config.full (divRound (e * r.cfg.kp) 100 + i) }

/-- 05 R84: the frost guard. -/
def Room.frost (r : Room) : Room :=
  let cold := r.air.elim false fun t => t < Config.frostGuard
  { r with integrator := 0, demand := if cold then Config.frostDemand else 0 }

/-- 05 R77: the room's treatment, chosen from its state, WINDOW mark and mode, and its I and D. An
ACTIVE room without its values is outside R77 and keeps I with demand 0; no run reaches it (R80;
DESIGN CHOICE, log entry 31). -/
def Room.control (r : Room) : Room :=
  match r.state with
  | .unbound => { r with demand := 0 }
  | .waiting => { r with demand := 0 }
  | .stale => if r.windowMark then { r with demand := 0 } else { r with demand := r.cfg.fallback }
  | .active =>
    if r.windowMark then { r with demand := 0 }
    else if r.mode == some .off then r.frost
    else match r.effective, r.air with
      | some t, some a => r.regulate (roomError t a)
      | _, _ => { r with demand := 0 }

/-- 05 R76: every room's demand, one room at a time and independently. -/
def State.controlRooms (s : State) : State := { s with rooms := s.rooms.map Room.control }

/-! ## Hand-overs from the binding table (03, R49) -/

/-- 03 R49: the room becomes UNBOUND, or WAITING when bound afresh, with its live fields cleared. -/
def Room.handed (st : RoomState) (r : Room) : Room := .cleared r.cfg st

end Sys2Proof.Machine
end

