-- ==== Sys2Proof/Machine/Opening.lean ====
section
/-! DEFINITION. Opening targets and what the head is asked for (08, R126 to R129; 06, R94), and the
supply request and the CALL payload (08, R136 to R139). -/

namespace Sys2Proof.Machine

/-! ## Opening targets -/

/-- 08 R127: the regulated opening from demand and balance factor. -/
def regulatedOpening (c : LoopCfg) (d b : Int) : Int :=
  let base := divRound (d * b) 1000
  if 0 < base then clampTo c.oMin c.oMax base else 0

/-- 08 R128, lines 7 and 8: a fixed opening held within the loop's limits. -/
def fixedOpening (c : LoopCfg) (v : Int) : Int :=
  let x := clampTo 0 c.oMax v
  if 0 < x ∧ x < c.oMin then c.oMin else x

/-- The exercise phase of a loop, if it is the exercising one. -/
def State.phaseOf (s : State) (i : Fin 16) : Option Phase :=
  s.exercise.current.bind fun t => if t.loop == i then some t.phase else none

/-- The room a loop's record names. -/
def State.roomOf (s : State) (l : LoopRec) : Option Room := l.cfg.room.map s.rooms.get

/-- The fault reasons for which the head is asked to close (06, R94). -/
def FaultReason.closes : FaultReason → Bool
  | .head => true
  | .kind => true
  | .stall => false
  | .window => false

/-- 08 R128, lines 5 to 9, for a loop that is neither UNBOUND nor in EXERCISE, in HEATING without
the alarm. -/
def heatingTarget (room : Option Room) (l : LoopRec) : Int :=
  if l.state == .fault && l.reason.elim false FaultReason.closes then 0
  else if room.elim false Room.limited then 0
  else match l.state with
    | .held => fixedOpening l.cfg (l.hold.getD 0)
    | .fault => fixedOpening l.cfg l.cfg.safe
    | _ => regulatedOpening l.cfg (room.elim 0 Room.demand) (l.b.getD 0)

/-- 08 R128: a loop's opening target, by the first line whose condition holds. -/
def State.targetOf (s : State) (i : Fin 16) : Int :=
  let l := s.loops.get i
  if l.state == .unbound then 0
  else if s.opening.alarm then 0
  else if l.state == .exercise then (if s.phaseOf i == some .open then l.cfg.oMax else 0)
  else if s.mode != .heating then 0
  else heatingTarget (s.roomOf l) l

/-- 06 R94: the commanded position of a MOTOR loop. -/
def State.positionFor (s : State) (i : Fin 16) : Int :=
  let l := s.loops.get i
  if l.state == .exercise then (if s.phaseOf i == some .open then Config.full else 0)
  else if l.state == .fault && l.reason.elim false FaultReason.closes then 0
  else l.o

/-- 06 R94; 10 R164: what a loop asks of its head is handed over: a MOTOR loop's position when it has
changed, a THERMAL loop's target of 0 at once. -/
def State.handTarget (s : State) (i : Fin 16) : State :=
  match s.boundKind i with
  | none => s
  | some .motor =>
    if (s.heads.get i).commanded == some (s.positionFor i) then s
    else s.handCommanded i (s.positionFor i)
  | some .thermal =>
    if !s.exercising i && s.positionFor i == 0 then s.modIdle i else s

/-- 08 R129: a loop's O is written between expiries and goes to the head. -/
def State.setO (s : State) (i : Fin 16) (v : Int) : State :=
  (s.setLoop i fun l => { l with o := v }).handTarget i

/-- 08 R129: a loop's O is worked out afresh by R128. -/
def State.retarget (s : State) (i : Fin 16) : State := s.setO i (s.targetOf i)

/-! ## Loop states at an expiry (06, R95 to R97) -/

/-- 06 R95: the settle counter of a loop that becomes OPENING. -/
def settleOf (warmUp : Nat) (k : Option HeadKind) : Nat :=
  if k == some .thermal then warmUp + 2 else Config.motorSettle

/-- 06 R97: an OPENING or OPEN loop closes. -/
def LoopRec.shut (l : LoopRec) : LoopRec :=
  { l with state := .closed, settle := 0, openRef := none }

/-- 06 R96: an OPENING loop with O above 0: the settle counter falls, and at 0 with the head settled
the loop becomes OPEN. -/
def LoopRec.countDown (l : LoopRec) : LoopRec :=
  let c := l.settle - 1
  if c = 0 ∧ l.settled = true then { l with state := .open, settle := 0, openRef := some l.o }
  else { l with settle := c }

/-- 06 R97: the new O lies 100 or more from the open reference. -/
def LoopRec.moved (l : LoopRec) : Bool :=
  l.openRef.elim false fun r => decide (Config.reopenStep ≤ (l.o - r).natAbs)

/-- 06 R95 to R97: a bound loop's state acts on its new O. -/
def LoopRec.judge (warmUp : Nat) (l : LoopRec) : LoopRec :=
  match l.state with
  | .closed =>
    if 0 < l.o then
      { l with state := .opening, settle := settleOf warmUp l.cfg.kind, settled := false }
    else l
  | .opening => if 0 < l.o then l.countDown else l.shut
  | .open =>
    if 0 < l.o then
      if l.moved then
        { l with state := .opening, settle := settleOf warmUp l.cfg.kind
                 settled := l.settled && l.cfg.kind != some .thermal }
      else l
    else l.shut
  | _ => l

/-- 08 R126: the targets of an expiry are written and go to the heads, and the loop states act on them.
The heads come first: by 06 R97 a MOVE made for the new O has cleared the head settled mark when the
loop is judged, so a MOTOR head that is sent elsewhere must first arrive there (log entry 6). -/
def State.writeTargets (s : State) : State :=
  let aimed := { s with loops := s.loops.mapIdx fun i l => { l with o := s.targetOf i } }
  let handed := forEach 16 (fun i s => s.handTarget i) aimed
  { handed with loops := handed.loops.map (LoopRec.judge s.profile.warmUp) }

/-- 06 R102: the sensor degraded marks. -/
def State.markDegraded (s : State) : State :=
  { s with loops := s.loops.map fun l =>
      let st := (s.channels.get l.cfg.channel).state
      { l with degraded := l.cfg.bound && (st == .aging || st == .lost) } }

/-! ## The supply request (08, R136, R137) -/

/-- 08 R136: a room that counts for D_max. -/
def Room.counts (r : Room) : Bool :=
  (r.state == .active || r.state == .stale) && !r.windowMark && !r.limited

/-- 08 R136: the largest demand among the rooms that count, 0 when none does. -/
def largestDemand (rooms : Tab 12 Room) : Int :=
  rooms.toList.foldl (fun m r => if r.counts then max m r.demand else m) 0

/-- 08 R137: the largest T_eff among rooms with demand above 0 that have one. -/
def largestEffective (rooms : Tab 12 Room) : Option Int :=
  rooms.toList.foldl (fun m r =>
    if 0 < r.demand then
      match m, r.effective with
      | some a, some b => some (max a b)
      | none, some b => some b
      | m, none => m
    else m) none

/-- 08 R137: the window [low, high] in which T_req may lie. -/
def requestWindow (p : Profile) (src : SourceRecord) : Int × Int :=
  let fresh := decide (src.age ≤ Config.sourceFresh)
  let low := match src.minimum with
    | some m => if fresh && decide (p.requestMin < m) then m else p.requestMin
    | none => p.requestMin
  let high := match src.maximum with
    | some m => if fresh && decide (m < p.requestMax) then m else p.requestMax
    | none => p.requestMax
  let low := clampTo p.requestMin p.requestMax low
  let high := clampTo p.requestMin p.requestMax high
  (if high < low then high else low, high)

/-- 08 R136: the counters and the step of T_req, from D_max. -/
def OpeningStage.count (step dMax : Int) (o : OpeningStage) : OpeningStage :=
  let o := { o with dMax := dMax }
  if Config.demandHigh ≤ dMax then
    if Config.requestRounds ≤ o.up + 1 then { o with up := 0, down := 0, tReq := o.tReq + step }
    else { o with up := o.up + 1, down := 0 }
  else if dMax ≤ Config.demandLow then
    if Config.requestRounds ≤ o.down + 1 then { o with up := 0, down := 0, tReq := o.tReq - step }
    else { o with up := 0, down := o.down + 1 }
  else { o with up := 0, down := 0 }

/-- 08 R137: T_req bounded by the rooms and held within the window. -/
def boundRequest (p : Profile) (src : SourceRecord) (rooms : Tab 12 Room) (t : Int) : Int :=
  let w := requestWindow p src
  let t := match largestEffective rooms with
    | some e => max t (e + Config.roomMargin)
    | none => t
  clampTo w.1 w.2 t

/-- 08 R136, R137: the supply request of an expiry in HEATING. -/
def State.heatingRequest (s : State) : State :=
  let o := s.opening.count s.profile.requestStep (largestDemand s.rooms)
  { s with opening := { o with tReq := boundRequest s.profile o.source s.rooms o.tReq } }

/-- 08 R136: the supply request of an expiry, by part mode. -/
def State.supplyRequest (s : State) : State :=
  if s.mode == .heating then s.heatingRequest
  else { s with opening := { s.opening with up := 0, down := 0 } }

/-! ## The CALL (08, R139) -/

/-- The number of loops with O above 0. -/
def State.loopsOpen (s : State) : Nat := s.loops.count fun l => decide (0 < l.o)

/-- 08 R139: the pump request. -/
def State.pump (s : State) : Bool := decide (0 < s.loopsOpen) && !s.opening.alarm

/-- 08 R139; 01, section 1.1: the payload of a CALL formed at this moment. -/
def State.callPayload (s : State) : List Byte :=
  bytes16 s.opening.tReq ++ [byteOf s.pump.toNat] ++ bytes16 s.opening.dMax ++
    [byteOf s.loopsOpen, byteOf s.opening.alarm.toNat]

end Sys2Proof.Machine
end

