-- ==== Sys2Proof/Machine/Loops.lean ====
section
/-! DEFINITION. Loop events between expiries: the valve exercise, HOLD and RELEASE, faults (06,
R98 to R106), and the supply overtemperature alarm (08, R130 to R132). -/

namespace Sys2Proof.Machine

/-! ## The valve exercise (06, R103 to R106) -/

/-- 06 R103: a loop that is passed over at its turn. -/
def LoopState.skipped : LoopState → Bool
  | .held => true
  | .fault => true
  | .unbound => true
  | _ => false

/-- 06 R103 to R105: a loop becomes EXERCISE and its open phase begins. -/
def State.beginOpenPhase (s : State) (i : Fin 16) (rest : List (Fin 16)) : State :=
  let kind := s.boundKind i
  let turn : Turn := { loop := i, phase := .open, count := if kind == some .thermal then none else some 0 }
  let s := { s with exercise := { running := true, list := rest, current := some turn,
                                  turnDue := false } }
  let s := s.setLoop i fun l =>
    { l with state := .exercise, settle := 0, openRef := none, hold := none, settled := false }
  let s := s.retarget i
  if kind == some .thermal then s.exerciseRequest i else s

/-- 06 R103: the turn: the first loop of the list that is not passed over, or the end. -/
def turnFrom : List (Fin 16) → State → State
  | [], s => { s with exercise := .none }
  | i :: rest, s =>
    if (s.loops.get i).state.skipped then turnFrom rest s else s.beginOpenPhase i rest

/-- 06 R103: a turn falls due; while the alarm is set it waits. -/
def State.takeTurn (s : State) : State :=
  if !s.exercise.running then s
  else if s.opening.alarm then { s with exercise := { s.exercise with turnDue := true } }
  else turnFrom s.exercise.list s

/-- 06 R104, R105: the close phase of the exercising loop begins. -/
def State.beginClosePhase (s : State) (i : Fin 16) : State :=
  let turn : Turn := { loop := i, phase := .close, count := some 0 }
  let s := { s with exercise := { s.exercise with current := some turn } }
  let s := s.retarget i
  if s.boundKind i == some .thermal then s.modIdle i else s

/-- 06 R104, R105: the close phase ends; the loop becomes CLOSED and the next turn is taken. -/
def State.endClosePhase (s : State) (i : Fin 16) : State :=
  let s := s.setLoop i fun l => { l with state := .closed }
  let s := { s with exercise := { s.exercise with current := none } }
  (s.setO i 0).takeTurn

/-- 06 R104, R105: the phase of the exercising loop ends. -/
def State.endPhase (s : State) (t : Turn) : State :=
  match t.phase with
  | .open => s.beginClosePhase t.loop
  | .close => s.endClosePhase t.loop

/-- 06 R104, R105: the count at which a phase ends. -/
def State.phaseLimit (s : State) (t : Turn) : Nat :=
  if t.phase == .open && s.boundKind t.loop == some .thermal then s.profile.warmUp + 2
  else Config.phaseRounds

/-- 06 R104, R105: does the exercising loop's phase end at this expiry? -/
def State.phaseEnds (s : State) (t : Turn) : Bool :=
  t.count.elim false fun n => decide (s.phaseLimit t ≤ n + 1)

/-- 06 R104, R105: the phase count at an expiry. -/
def State.countPhase (s : State) : State :=
  match s.exercise.current with
  | none => s
  | some t =>
    if s.phaseEnds t then s.endPhase t
    else { s with exercise :=
             { s.exercise with current := some { t with count := t.count.map (· + 1) } } }

/-- 06 R103: a turn that waited is taken at the first expiry at which the alarm is clear. -/
def State.dueTurn (s : State) : State :=
  if s.exercise.turnDue && !s.opening.alarm then s.takeTurn else s

/-- 06 R103: an exercise start forms the list and takes a turn; one that runs starts nothing. -/
def State.startExercise (s : State) : State :=
  if s.exercise.running then s
  else
    let list := (List.finRange 16).filter s.bound
    State.takeTurn { s with exercise :=
      { running := true, list := list, current := none, turnDue := false } }

/-- 02 R31: the exercise interval count at an expiry in SUMMER. -/
def State.countInterval (s : State) : State :=
  if s.mode == .summer then
    if Config.exerciseInterval ≤ s.interval + 1 then State.startExercise { s with interval := 0 }
    else { s with interval := s.interval + 1 }
  else s

/-- 06 R106: the exercising loop is about to leave EXERCISE by another event, and no loop is exercised. -/
def State.leaveExercise (s : State) (i : Fin 16) : State :=
  if s.exercising i then { s with exercise := { s.exercise with current := none } } else s

/-- 06 R106: the exercising loop is about to leave EXERCISE and stays as it is bound: a THERMAL record
becomes IDLE (10, R166). -/
def State.quitExercise (s : State) (i : Fin 16) : State :=
  if s.exercising i then (s.leaveExercise i).modIdle i else s

/-- 02 R31; 06 R106: an exercise in progress ends: the exercising loop is CLOSED with O 0, the rest
of the list is discarded. -/
def State.endExercise (s : State) : State :=
  let t := s.exercise.current
  let s := { s with exercise := .none }
  match t with
  | none => s
  | some t =>
    let s := s.modIdle t.loop
    (s.setLoop t.loop fun l => { l with state := .closed }).setO t.loop 0

/-! ## HOLD, RELEASE and CLEARFAULT (06, R98, R99, R101) -/

/-- 06 R98: HOLD on a bound loop with the hold opening clamped. -/
def State.holdLoop (s : State) (i : Fin 16) (v : Int) : State :=
  let was := s.exercising i
  let s := s.quitExercise i
  let s := s.setLoop i fun l =>
    { l with state := .held, hold := some v, reason := none, settle := 0, openRef := none,
             settled := false }
  let s := s.retarget i
  if was then s.takeTurn else s

/-- 06 R99, R101: a loop is released to CLOSED with O 0. -/
def State.releaseLoop (s : State) (i : Fin 16) : State :=
  (s.setLoop i fun l => { l with state := .closed, hold := none, reason := none }).setO i 0

/-- 06 R101: CLEARFAULT on a loop in FAULT; a KIND fault has its head probed. -/
def State.clearFault (s : State) (i : Fin 16) : State :=
  let kind := (s.loops.get i).reason == some .kind
  let s := s.releaseLoop i
  if kind then s.wantProbe i else s

/-! ## Fault events (06, R100) -/

/-- The rank of a fault reason. -/
def FaultReason.rank : FaultReason → Nat
  | .head => 4 | .kind => 3 | .stall => 2 | .window => 1

/-- 06 R100: entry to FAULT clears the hold opening, the open reference, the settle counter and the
head settled mark. -/
def LoopRec.fault (reason : FaultReason) (l : LoopRec) : LoopRec :=
  { l with state := .fault, reason := some reason, hold := none, openRef := none, settle := 0,
           settled := false }

/-- 06 R100: a fault event acts on its loop by reason and state. -/
def State.faultEvent (s : State) (i : Fin 16) (reason : FaultReason) : State :=
  let l := s.loops.get i
  match l.state with
  | .unbound => s
  | .fault =>
    if l.reason.elim 0 FaultReason.rank < reason.rank then
      (s.setLoop i fun l => { l with reason := some reason }).retarget i
    else s
  | _ =>
    let was := s.exercising i
    let s := ((s.quitExercise i).setLoop i (LoopRec.fault reason)).retarget i
    if was then s.takeTurn else s

/-- A position as a detail value; none reads as -32768 (02, section 2.2). -/
def orNone (v : Option Int) : Int := v.getD Config.noneCode

/-- 06 R100: the head of a bound loop has stalled. -/
def State.stallEvent (s : State) (i : Fin 16) : State :=
  if s.bound i then
    (s.faultEvent i .stall).raiseFlag .headFault i.val (orNone (s.heads.get i).position)
  else s

/-- 06 R100; 09 R152: a head of a bound loop reports a kind other than the configured one. -/
def State.kindEvent (s : State) (i : Fin 16) (reported : HeadKind) : State :=
  if s.bound i then
    (s.faultEvent i .kind).raiseFlag .kindMismatch i.val
      (pairValue (kindCode (some reported)) (kindCode (s.loops.get i).cfg.kind))
  else s

/-- 06 R100: at each expiry a bound loop whose head is UNREACHABLE is in FAULT with reason HEAD. -/
def State.catchUnreachable (s : State) : State :=
  forEach 16 (fun i s =>
    if s.bound i && (s.heads.get i).unreachable && (s.loops.get i).reason != some .head then
      s.faultEvent i .head
    else s) s

/-- 06 R101: an answer from the head releases a FAULT with reason HEAD. -/
def State.headReleases (s : State) (i : Fin 16) : State :=
  let l := s.loops.get i
  if l.state == .fault && l.reason == some .head then s.releaseLoop i else s

/-! ## The supply overtemperature alarm (08, R130 to R132) -/

/-- 08 R131: a CALL is offered at the setting of the alarm in HEATING, or when one is waiting. -/
def State.callWaits (s : State) : Bool :=
  s.mode == .heating || s.ring.ownSend.any Frame.isCall || s.ring.pendingCall.isSome

/-- 06 R106: the alarm passes an exercise open phase to its close phase. -/
def State.alarmExercise (s : State) : State :=
  match s.exercise.current with
  | some t => if t.phase == .open then s.beginClosePhase t.loop else s
  | none => s

/-- 08 R131: the alarm is set. The order of its parts is a DESIGN CHOICE (log entry 22). -/
def State.setAlarm (s : State) (f : Int) : State :=
  let s := { s with opening := { s.opening with alarm := true }, interrupted := true }
  let s := s.raiseFlag .supplyOvertemp s.profile.supply.val f
  let s := s.modAlarm.alarmExercise
  let s := forEach 16 (fun i s => s.setO i 0) s
  if s.callWaits then s.offerCall s.callPayload else s

/-- 08 R130: the alarm is tested against the supply channel's F as it stands. -/
def State.testAlarm (s : State) : State :=
  let ch := s.channels.get s.profile.supply
  if s.mode != .repeater && (ch.state == .filling || ch.state == .fresh) then
    match ch.filtered with
    | none => s
    | some f =>
      if s.opening.alarm then
        if f < s.profile.overLimit - s.profile.overHyst then
          { s with opening := { s.opening with alarm := false } }
        else s
      else if s.profile.overLimit < f then s.setAlarm f
      else s
  else s

/-! ## Samples (04, R61 to R67; 08, R130, R132) -/

/-- 04 R66; 08 R132: the flags of a channel that has become LOST, CHANNEL_LOST first (DESIGN CHOICE, log
entry 38: R132 puts both in the same step and gives no order). -/
def State.channelLost (s : State) (c : Fin 18) : State :=
  let ch := s.channels.get c
  let t := s.raiseFlag .channelLost c.val (pairValue ch.cfg.input.val ch.lastResult.code)
  if s.profile.supply == c then t.raiseFlag .supplyLost c.val (if s.opening.alarm then 1 else 0)
  else t

/-- 04 R61 to R67: a result is delivered to its channel, with the alarm test and the loss flags that
follow in the same step. -/
def State.takeResult (s : State) (c : Fin 18) (r : Conversion) : State :=
  let old := s.channels.get c
  let sample := judgeResult old.cfg.trim r
  let t := s.setChannel c (Channel.take sample)
  match sample with
  | .valid _ => if s.profile.supply == c then t.testAlarm else t
  | .invalid _ _ =>
    if old.state != .lost && (t.channels.get c).state == .lost then t.channelLost c else t

end Sys2Proof.Machine
end

