-- ==== Sys2Proof/Machine/Binding.lean ====
section
/-! DEFINITION. The binding table (03, section 3.1). -/

namespace Sys2Proof.Machine

/-- The address an entry holds, if any. -/
def BindingEntry.address : BindingEntry → Option Nat
  | .free => none
  | .bound a _ _ _ => some a
  | .learned a _ _ _ => some a

/-- The room a BOUND entry names. -/
def BindingEntry.room : BindingEntry → Option (Fin 12)
  | .bound _ r _ _ => some r
  | _ => none

/-- The address of a BOUND entry. -/
def BindingEntry.boundAddress : BindingEntry → Option Nat
  | .bound a _ _ _ => some a
  | _ => none

/-- The address of a LEARNED entry. -/
def BindingEntry.learnedAddress : BindingEntry → Option Nat
  | .learned a _ _ _ => some a
  | _ => none

/-- The age rank of a LEARNED entry. -/
def BindingEntry.rank : BindingEntry → Option Nat
  | .learned _ k _ _ => some k
  | _ => none

/-- The last air temperature seen. -/
def BindingEntry.lastAir : BindingEntry → Option Int
  | .free => none
  | .bound _ _ t _ => t
  | .learned _ _ t _ => some t

/-- Rounds since seen; 0 in a FREE entry (03, R38). -/
def BindingEntry.seen : BindingEntry → Nat
  | .free => 0
  | .bound _ _ _ n => n
  | .learned _ _ _ n => n

/-- A LEARNED entry's rank changed. -/
def BindingEntry.mapRank (f : Nat → Nat) : BindingEntry → BindingEntry
  | .learned a k t n => .learned a (f k) t n
  | e => e

/-- The binding table. -/
abbrev BindingTable := Tab 16 BindingEntry

/-- 03 R39: the ranks above a rank that has gone close up. -/
def closeRanks (gone : Nat) (t : BindingTable) : BindingTable :=
  t.map (BindingEntry.mapRank fun k => if gone < k then k - 1 else k)

/-- 03 R39: an entry stops being LEARNED: what it becomes is written and the ranks close up. -/
def replaceEntry (i : Fin 16) (e : BindingEntry) (t : BindingTable) : BindingTable :=
  match (t.get i).rank with
  | some k => closeRanks k (t.set i e)
  | none => t.set i e

/-- The number of LEARNED entries. -/
def learnedCount (t : BindingTable) : Nat := t.count fun e => e.rank.isSome

/-- 03 R39: room is made at rank 0 for an entry that becomes the most recent: ranks below its former
rank rise by one (every rank, for a new entry). -/
def raiseRanks (former : Nat) (t : BindingTable) : BindingTable :=
  t.map (BindingEntry.mapRank fun k => if k < former then k + 1 else k)

/-- 03 R42: the entry a new address takes: the lowest FREE one, else the least recent LEARNED one. -/
def newEntryIndex (t : BindingTable) : Option (Fin 16) :=
  match t.find (· == .free) with
  | some i => some i
  | none => t.find fun e => decide (0 < learnedCount t) && e.rank == some (learnedCount t - 1)

/-- 03 R42: a new LEARNED entry for an address. -/
def learnAddress (address : Nat) (air : Int) (t : BindingTable) : BindingTable :=
  match newEntryIndex t with
  | none => t
  | some i =>
    let former := ((t.get i).rank).getD 16
    (raiseRanks former t).set i (.learned address 0 air 0)

/-- 03 R40 to R42: a report with its origin at the binding table; the room of a BOUND entry takes the
report in. -/
def State.reportArrives (s : State) (origin : Nat) (p : Report) : State :=
  match s.binding.find fun e => e.address == some origin with
  | none =>
    if s.profile.learn then { s with binding := learnAddress origin p.air s.binding } else s
  | some i =>
    match s.binding.get i with
    | .free => s
    | .bound a r _ _ =>
      State.takeReport { s with binding := s.binding.set i (.bound a r (some p.air) 0) } r p
    | .learned a k _ _ =>
      { s with binding := (raiseRanks k s.binding).set i (.learned a 0 p.air 0) }

/-- 03 R43: an entry's rounds since seen age. -/
def BindingEntry.age : BindingEntry → BindingEntry
  | .free => .free
  | .bound a r t n => .bound a r t (bump n)
  | .learned a k t n => .learned a k t (bump n)

/-- 03 R46: FORGET makes every LEARNED entry FREE. -/
def forgetLearned (t : BindingTable) : BindingTable :=
  t.map fun e => if e.rank.isSome then .free else e

/-- 03 R44: is a binding write refused? `a` and `r` are the prospective address and room of entry
`i`. -/
def bindingRefused (t : BindingTable) (i : Fin 16) (a : Option Nat) (r : Option (Fin 12)) : Bool :=
  match r with
  | none => false
  | some room =>
    let others := (List.finRange 16).filter (· != i)
    match a with
    | none => true
    | some addr =>
      others.any fun j =>
        (t.get j).boundAddress == some addr || (t.get j).room == some room

/-- 03 R45: the outcome of a binding write that names at least one field and passes R44. -/
def bindEntry (t : BindingTable) (i : Fin 16) (a : Option Nat) (r : Option (Fin 12)) :
    BindingTable :=
  match r, a with
  | some room, some addr =>
    let old := t.get i
    if old.learnedAddress == some addr then replaceEntry i (.bound addr room old.lastAir old.seen) t
    else match t.find fun e => e.learnedAddress == some addr with
      | some j =>
        let src := t.get j
        replaceEntry i (.bound addr room src.lastAir src.seen) (replaceEntry j .free t)
      | none =>
        if old.boundAddress == some addr then t.set i (.bound addr room old.lastAir old.seen)
        else replaceEntry i (.bound addr room none 0) t
  | _, _ => replaceEntry i .free t

/-- The address of the BOUND entry that names a room. -/
def roomAddress (t : BindingTable) (room : Fin 12) : Option Nat :=
  (t.find fun e => e.room == some room).bind fun i => (t.get i).boundAddress

/-- 03 R45: what a room is handed over as, from its address before and after. -/
def handOver (before after : Option Nat) (r : Room) : Room :=
  match before, after with
  | _, some b => if before == some b then r else r.handed .waiting
  | some _, none => r.handed .unbound
  | none, none => r

/-- 03 R45, R47, R49: a new binding table is put in place and the rooms affected are handed over. -/
def State.setBinding (s : State) (t : BindingTable) : State :=
  { s with binding := t
           rooms := s.rooms.mapIdx fun room r =>
             handOver (roomAddress s.binding room) (roomAddress t room) r }

/-- 03 R50: the rooms after a power-up or a RESTART, from the binding table as it stands. -/
def roomsAfresh (t : BindingTable) (rooms : Tab 12 RoomCfg) : Tab 12 Room :=
  rooms.mapIdx fun room cfg =>
    .cleared cfg (if (roomAddress t room).isSome then .waiting else .unbound)

/-! ## Recall (02, R36, R37; 03, R47) -/

/-- 03 R47: a power-up recall places the image's BOUND entries; every other entry is FREE. -/
def bindingOf (b : Tab 16 (Option (Nat × Fin 12))) : BindingTable :=
  b.map fun e => e.elim .free fun p => .bound p.1 p.2 none 0

/-- An entry at an index the image claims for a BOUND entry: kept whole when it agrees (03, R47). One that
does not agree is placed anew with last air none and rounds since seen 0 (DESIGN CHOICE, log entry 37: R47
gives these values for the power-up recall only). -/
def recallBound (old : BindingEntry) (p : Nat × Fin 12) : BindingEntry :=
  if old.boundAddress == some p.1 && old.room == some p.2 then old else .bound p.1 p.2 none 0

/-- The LEARNED entries of a table in recency order (rank 0 first). -/
def learnedByRank (t : BindingTable) : List (Fin 16) :=
  (List.range 16).filterMap fun k => t.find fun e => e.rank == some k

/-- 03 R47: a displaced LEARNED entry is moved to the lowest FREE index. -/
def moveToFree (t : BindingTable) (e : BindingEntry) : BindingTable :=
  match t.find (· == .free) with
  | some j => t.set j e
  | none => t

/-- 03 R47: the ranks of the LEARNED entries of a table are closed up, keeping their order. -/
def closeAllRanks (t : BindingTable) : BindingTable :=
  t.map (BindingEntry.mapRank fun k =>
    (t.toList.countP fun e => e.rank.elim false fun j => decide (j < k)))

/-- 02 R36; 03 R47: a RECALL's binding table. LEARNED entries whose address is recalled are dropped;
of the others the most recent are kept while there are indexes for them; those at claimed indexes
move to the lowest FREE indexes, the most recent first (DESIGN CHOICE, log entry 18). -/
def recallBinding (t : BindingTable) (b : Tab 16 (Option (Nat × Fin 12))) : BindingTable :=
  let recalled : Nat → Bool := fun a => b.any fun e => e.elim false fun p => p.1 == a
  let places := b.count fun e => e.isNone
  let keep := ((learnedByRank t).filter fun i =>
    (t.get i).address.elim false fun a => !recalled a).take places
  let base : BindingTable := Tab.ofFn fun i =>
    match b.get i with
    | some p => recallBound (t.get i) p
    | none => if keep.contains i then t.get i else .free
  let displaced := keep.filter fun i => (b.get i).isSome
  closeAllRanks (displaced.foldl (fun acc i => moveToFree acc (t.get i)) base)

end Sys2Proof.Machine
end

