-- ==== Sys2Proof/Machine/Operands.lean ====
section
/-! DEFINITION. The operand forms of READ and WRITE (02, section 2.2): the fields of the tables as
two-byte values, their ranges and codes, and the tests of 02 R24. -/

namespace Sys2Proof.Machine

/-! ## Values of fields -/

/-- A number of a bounded kind from a field value already tested. -/
def finOf (n : Nat) [NeZero n] (v : Int) : Fin n := Fin.ofNat n v.toNat

/-- A field that may be none, from its value. -/
def orAbsent {α : Type} (f : Int → α) (v : Int) : Option α :=
  if v = Config.noneCode then none else some (f v)

/-! ## The fields of each table's records, in field order -/

/-- 02, section 2.3. -/
def Profile.fields (p : Profile) : List Int :=
  [p.manager, p.source, codeBool p.broadcast, codeBool p.learn, p.spreadTarget, p.gain, p.stepLimit,
   p.deadband, p.bMin, p.eligibility, p.roundLength, p.requestMin, p.requestMax, p.requestStep,
   p.overLimit, p.overHyst, p.supply.val, p.period, p.warmUp, p.inrush, p.motorDeadband,
   p.noticeMask.toInt, p.alertMask.toInt, p.modeAtStart.code]

/-- The profile that field values stand for. -/
def Profile.ofFields (l : List Int) : Profile :=
  let f := fun k => l.getD k 0
  { manager := (f 0).toNat, source := (f 1).toNat, broadcast := f 2 == 1, learn := f 3 == 1,
    spreadTarget := f 4, gain := f 5, stepLimit := f 6, deadband := f 7, bMin := f 8,
    eligibility := f 9, roundLength := (f 10).toNat, requestMin := f 11, requestMax := f 12,
    requestStep := f 13, overLimit := f 14, overHyst := f 15, supply := finOf 18 (f 16),
    period := (f 17).toNat, warmUp := (f 18).toNat, inrush := (f 19).toNat, motorDeadband := f 20,
    noticeMask := BitVec.ofInt 16 (f 21), alertMask := BitVec.ofInt 16 (f 22),
    modeAtStart := if f 23 == 2 then .summer else .heating }

/-- 03 R38. -/
def BindingEntry.fields (e : BindingEntry) : List Int :=
  [codeOr (fun a : Nat => (a : Int)) e.address, codeOr (fun r : Fin 12 => (r.val : Int)) e.room,
   (match e with
    | .free => 0
    | .bound .. => 1
    | .learned .. => 2),
   codeOr (fun k : Nat => (k : Int)) e.rank, codeOr id e.lastAir, e.seen]

/-- 03, section 3.2, fields 0 to 6. -/
def RoomCfg.fields (c : RoomCfg) : List Int :=
  [c.kp, c.ki, c.setback, codeOr id c.floorLimit, c.staleTime, c.fallback, c.windowTimeout]

/-- The room configuration that field values stand for. -/
def RoomCfg.ofFields (l : List Int) : RoomCfg :=
  let f := fun k => l.getD k 0
  { kp := f 0, ki := f 1, setback := f 2, floorLimit := orAbsent id (f 3),
    staleTime := (f 4).toNat, fallback := f 5, windowTimeout := (f 6).toNat }

/-- 03, section 3.2, all fields; `loops` is the loop count of the room. -/
def Room.fields (loops : Nat) (r : Room) : List Int :=
  r.cfg.fields ++
    ([r.state.code, codeOr id r.air, codeOr id r.setpoint, codeOr (fun m => (RoomMode.code m : Int)) r.mode,
     codeOr id r.floor, codeBool r.windowOpen, codeBool r.batteryLow, r.sinceReport,
     codeBool r.windowMark, codeBool r.limited, codeBool r.implausible, r.windowRounds,
     codeBool r.lockout, r.integrator, r.demand, loops] : List Int)

/-- 06 R89, fields 0 to 8. -/
def LoopCfg.fields (c : LoopCfg) : List Int :=
  [codeOr (fun r : Fin 12 => (r.val : Int)) c.room, kindCode c.kind, c.channel.val, c.heat,
   c.length, c.oMin, c.oMax, c.safe, codeOr id c.seed]

/-- The loop configuration that field values stand for. -/
def LoopCfg.ofFields (l : List Int) : LoopCfg :=
  let f := fun k => l.getD k 0
  { room := orAbsent (finOf 12) (f 0)
    kind := if f 1 == 1 then some .motor else if f 1 == 2 then some .thermal else none
    channel := finOf 18 (f 2), heat := f 3, length := f 4, oMin := f 5, oMax := f 6, safe := f 7,
    seed := orAbsent id (f 8) }

/-- 06 R89, all fields. -/
def LoopRec.fields (l : LoopRec) : List Int :=
  l.cfg.fields ++
    ([l.state.code, reasonCode l.reason, codeOr id l.b, l.o, codeOr id l.hold, l.settle,
     codeOr id l.openRef, codeBool l.settled, codeBool l.degraded, l.spreadCount,
     codeBool l.spoiled] : List Int)

/-- 11 R169, fields 0 to 8. -/
def WindowCfg.fields (c : WindowCfg) : List Int :=
  [codeOr (fun i : Fin 16 => (i.val : Int)) c.loop, c.quantity.code, c.low, c.high,
   codeBool c.outside, c.qualifier, codeBool c.cumulative, c.threshold, codeBool c.faults]

/-- The window configuration that field values stand for. -/
def WindowCfg.ofFields (l : List Int) : WindowCfg :=
  let f := fun k => l.getD k 0
  { loop := orAbsent (finOf 16) (f 0)
    quantity := if f 1 == 2 then .spread else if f 1 == 3 then .opening else .return
    low := f 2, high := f 3, outside := f 4 == 1, qualifier := f 5, cumulative := f 6 == 1,
    threshold := (f 7).toNat, faults := f 8 == 1 }

/-- 11 R169, all fields. -/
def Window.fields (w : Window) : List Int := w.cfg.fields ++ [(w.count : Int), (w.state.code : Int)]

/-- 04 R56, fields 0 and 1. -/
def ChannelCfg.fields (c : ChannelCfg) : List Int := [c.input.val, c.trim]

/-- The channel configuration that field values stand for. -/
def ChannelCfg.ofFields (l : List Int) : ChannelCfg :=
  { input := finOf 18 (l.getD 0 0), trim := l.getD 1 0 }

/-- 04 R56, all fields; `refs` is the reference count. -/
def Channel.fields (refs : Nat) (c : Channel) : List Int :=
  c.cfg.fields ++
    ([c.state.code, codeOr id c.filtered, c.history.length, c.writeIndex, c.validRun, c.missed, refs,
     c.lastResult.code, codeOr id c.lastReading] : List Int)

/-- 04 R70: the history as table 7 shows it, newest first. -/
def Channel.historyFields (c : Channel) : List Int :=
  (List.range Config.historyPlaces).map fun k => codeOr id (c.history[k]?)

/-- 09 R145: the head state by the first line that applies. -/
def State.headState (s : State) (h : Fin 16) : Nat :=
  let d := s.heads.get h
  if d.unreachable then 4
  else if s.inFlight h then 2
  else if d.wants.some? then 1
  else if d.moving.isSome then 3
  else 0

/-- 09 R141. -/
def State.headFields (s : State) (h : Fin 16) : List Int :=
  let d := s.heads.get h
  [codeBool d.present, codeOr (fun k => (kindCode (some k) : Int)) d.kind, timingCode d.timing,
   codeOr id d.commanded, codeOr id d.acked, codeOr id d.position, d.misses, s.headState h,
   codeOr (fun n : Nat => (n : Int)) d.moving]

/-- 03, section 3.2: the loop count of a room. -/
def State.loopCount (s : State) (r : Fin 12) : Nat := s.loops.count fun l => l.cfg.room == some r

/-- The number of entries of each table (00, Numbering); 0 for a table that does not exist. -/
def tableEntries : Nat → Nat
  | 0 => 1 | 1 => 16 | 2 => 12 | 3 => 16 | 4 => 8 | 5 => 18 | 6 => 16 | 7 => 18 | _ => 0

/-- The number of fields of each table's records. -/
def tableWidth : Nat → Nat
  | 0 => 24 | 1 => 6 | 2 => 23 | 3 => 20 | 4 => 11 | 5 => 11 | 6 => 9 | 7 => 16 | _ => 0

/-- All fields of one entry of a table, in field order. -/
def State.tableFields (s : State) (table index : Nat) : List Int :=
  match table with
  | 0 => s.profile.fields
  | 1 => (s.binding.get (Fin.ofNat 16 index)).fields
  | 2 => (s.rooms.get (Fin.ofNat 12 index)).fields (s.loopCount (Fin.ofNat 12 index))
  | 3 => (s.loops.get (Fin.ofNat 16 index)).fields
  | 4 => (s.windows.get (Fin.ofNat 8 index)).fields
  | 5 => (s.channels.get (Fin.ofNat 18 index)).fields (s.references (Fin.ofNat 18 index))
  | 6 => s.headFields (Fin.ofNat 16 index)
  | 7 => (s.channels.get (Fin.ofNat 18 index)).historyFields
  | _ => []

/-! ## The tests of a WRITE (02, R24, R25) -/

/-- What values a field takes (02, section 2.2 and the field tables). -/
inductive FieldKind where
  /-- a numeric value, clamped into its range -/
  | numeric (lo hi : Int)
  /-- a numeric value that may be absent -/
  | numericOr (lo hi : Int)
  /-- a selector with a range of codes -/
  | select (lo hi : Int)
  /-- a selector that may be none -/
  | selectOr (lo hi : Int)
  /-- sixteen flags -/
  | mask
  /-- not a configuration field -/
  | live
deriving DecidableEq, Repr

/-- The field kinds of each table, by field number. -/
def fieldKinds : Nat → List FieldKind
  | 0 => [.select 0 31, .select 0 31, .select 0 1, .select 0 1, .numeric 200 1000, .numeric 0 200,
          .numeric 10 100, .numeric 0 100, .numeric 50 500, .numeric 100 500, .numeric 5 30,
          .numeric 2000 4500, .numeric 2500 5500, .numeric 10 200, .numeric 3500 6000,
          .numeric 200 1000, .select 0 17, .numeric 8 60, .numeric 1 10, .numeric 1 16,
          .numeric 0 100, .mask, .mask, .select 1 2]
  | 1 => [.selectOr 1 31, .selectOr 0 11, .live, .live, .live, .live]
  | 2 => [.numeric 0 2000, .numeric 0 1000, .numeric 0 800, .numericOr 2500 3500, .numeric 10 120,
          .numeric 0 1000, .numeric 10 120] ++ List.replicate 16 .live
  | 3 => [.selectOr 0 11, .select 0 2, .select 0 17, .numeric 50 3000, .numeric 5 200,
          .numeric 0 500, .numeric 200 1000, .numeric 0 1000, .numericOr 100 1000] ++
          List.replicate 11 .live
  | 4 => [.selectOr 0 15, .select 1 3, .numeric (-3000) 9500, .numeric (-3000) 9500, .select 0 1,
          .numeric 0 1000, .select 0 1, .numeric 1 255, .select 0 1, .live, .live]
  | 5 => [.select 0 17, .numeric (-200) 200] ++ List.replicate 9 .live
  | 6 => List.replicate 9 .live
  | 7 => List.replicate 16 .live
  | _ => []

/-- The value a field takes for a written value, and whether it was clamped; none where the write is
refused (02, R24, R25). -/
def FieldKind.take (v : Int) : FieldKind → Option (Int × Bool)
  | .numeric lo hi => some (clampTo lo hi v, clampTo lo hi v != v)
  | .numericOr lo hi =>
    if v = Config.noneCode then some (v, false) else some (clampTo lo hi v, clampTo lo hi v != v)
  | .select lo hi => if lo ≤ v ∧ v ≤ hi then some (v, false) else none
  | .selectOr lo hi => if v = Config.noneCode ∨ (lo ≤ v ∧ v ≤ hi) then some (v, false) else none
  | .mask => some (v, false)
  | .live => none

/-- Field and value pairs. -/
abbrev Pairs := List (Nat × Int)

/-- The pairs of a WRITE from its bytes: field number, high byte, low byte (02, R21). -/
def pairsOf : List Byte → Option Pairs
  | [] => some []
  | f :: hi :: lo :: rest => (pairsOf rest).map fun ps => (f.toNat, signed16 hi lo) :: ps
  | _ => none

/-- 02 R24: two pairs name the same field. -/
def repeats : Pairs → Bool
  | [] => false
  | p :: ps => ps.any (fun q => q.1 == p.1) || repeats ps

/-- 02 R24, R25: the pairs with their values clamped, and whether any was; none where the write is
refused. -/
def takePairs (kinds : List FieldKind) : Pairs → Option (Pairs × Bool)
  | [] => some ([], false)
  | (k, v) :: ps =>
    match (kinds.getD k .live).take v, takePairs kinds ps with
    | some (w, c), some (rest, d) => some ((k, w) :: rest, c || d)
    | _, _ => none

/-- The outcome of 02 R24 for a WRITE. -/
inductive PairTest where
  | unknown
  | refused
  | passed (values : Pairs) (clamped : Bool)
deriving DecidableEq, Repr

/-- 02 R24: the UNKNOWN tests first, then the REFUSED ones; a table up to 5 that fails none passes. -/
def testPairs (table index : Nat) (ps : Pairs) : PairTest :=
  if tableEntries table ≤ index then .unknown
  else if ps.any fun p => decide (tableWidth table ≤ p.1) then .unknown
  else if 6 ≤ table then .refused
  else if repeats ps then .refused
  else match takePairs (fieldKinds table) ps with
    | some (values, clamped) => .passed values clamped
    | none => .refused

/-- 02 R25: the prospective fields: the written values laid over the present ones. -/
def overlay (fields : List Int) (ps : Pairs) : List Int :=
  ps.foldl (fun l p => l.set p.1 p.2) fields

end Sys2Proof.Machine
end

