-- ==== Sys2Proof/Machine/Writes.lean ====
section
/-! DEFINITION. What a write that takes effect does in each table (02, R25, R29; 03, R48; 04, R68,
R69; 06, R90 to R93; 10, R167; 11, R169), for WRITE orders and for recalls alike. -/

namespace Sys2Proof.Machine

/-! ## Loop records (06, R91 to R93) -/

/-- What a newly bound loop takes as its B: a seed after a write (R91), a stored B after a recall
(02, R36). -/
inductive FirstFactor where
  | seeded
  | stored (b : Option Int)
deriving DecidableEq, Repr

/-- 06 R91, R94; 09 R157; 10 R159: the head of a bound loop is to be probed and is handed the closed
position; a THERMAL loop gets its modulation record. -/
def State.startHead (s : State) (i : Fin 16) : State :=
  match s.boundKind i with
  | none => s
  | some .motor => (s.wantProbe i).handCommanded i 0
  | some .thermal => (s.wantProbe i).makeRec i

/-- 06 R91: an unbound loop becomes bound. -/
def State.bindLoop (s : State) (i : Fin 16) (new : LoopCfg) (first : FirstFactor) : State :=
  let s := s.setLoop i fun _ => .cleared new .closed none
  let s := match first with
    | .seeded => s.seedLoop i
    | .stored b => s.setLoop i fun l => { l with b := b }
  s.startHead i

/-- 06 R92; 09 R143, R150: the head of a loop that becomes unbound: a close request under the old
kind, or nothing for an UNREACHABLE head, which is not re-probed. Its travel ends (DEDUCED, log entry 29). -/
def State.leaveHead (s : State) (i : Fin 16) (old : HeadKind) : State :=
  (s.setHead i fun h =>
    if h.unreachable then { h with commanded := none, wants := .nothing, moving := none }
    else { h with moving := none }).requestClose i old

/-- 06 R92: a bound loop becomes unbound, from any state. Its head is closed by the close request, not by the
modulator (10, R159). -/
def State.unbindLoop (s : State) (i : Fin 16) (new : LoopCfg) (old : HeadKind) : State :=
  let was := s.exercising i
  let s := (s.leaveExercise i).leaveHead i old
  let s := s.dropRec i
  let s := { s with exercise := { s.exercise with list := s.exercise.list.filter (· != i) } }
  let s := s.setLoop i fun _ => .cleared new .unbound none
  if was then s.takeTurn else s

/-- 06 R93: a FAULT with reason HEAD outlasts a change of kind. -/
def LoopRec.headFault (l : LoopRec) : Bool := l.state == .fault && l.reason == some .head

/-- 06 R93: the live fields of a loop whose kind changes. -/
def LoopRec.rekinded (l : LoopRec) : LoopRec :=
  if l.headFault then l
  else { l with state := .closed, o := 0, hold := none, reason := none, settle := 0, openRef := none,
                settled := false }

/-- 06 R93: a change between MOTOR and THERMAL. The head is closed by the close request, not by the modulator
(10, R159). A travel under way goes on, so that the head can still be
polled and reported stalled (DESIGN CHOICE, log entry 39: R93 and 09 R151 do not say that it ends). -/
def State.rekindLoop (s : State) (i : Fin 16) (new : LoopCfg) (old : HeadKind) : State :=
  let was := s.exercising i
  let s := s.leaveExercise i
  let s := if (s.loops.get i).headFault then s else s.requestClose i old
  let s := s.dropRec i
  let s := s.setLoop i fun l => { l with cfg := new }.rekinded
  let s := s.startHead i
  if was then s.takeTurn else s

/-- 06 R93: an O brought within new limits; 0 stays 0. -/
def withinLimits (c : LoopCfg) (o : Int) : Int := if o = 0 then 0 else clampTo c.oMin c.oMax o

/-- 06 R93; 07 R115: the effects of changed limits, room or return channel on a loop that stays
bound. -/
def State.adjustLoop (s : State) (i : Fin 16) (old new : LoopCfg) : State :=
  let o := (s.loops.get i).o
  let o' := if old.oMin == new.oMin && old.oMax == new.oMax then o else withinLimits new o
  let spoils := old.room != new.room || old.channel != new.channel || o != o'
  let s := doWhen spoils (fun s => s.setLoop i LoopRec.spoil) s
  if o == o' then s else s.setO i o'

/-- 06 R91 to R93: a loop record takes a new configuration. A changed kind sets O to 0 before changed limits
act on it, so the limits of such a write change no O and spoil nothing (DESIGN CHOICE, log entry 41: R93
applies each effect and gives no order). -/
def State.applyLoop (s : State) (i : Fin 16) (new : LoopCfg) (first : FirstFactor) : State :=
  let old := (s.loops.get i).cfg
  if old == new then s
  else match old.bound, new.bound, old.kind with
    | false, true, _ => s.bindLoop i new first
    | false, false, _ => s.setLoop i fun l => { l with cfg := new }
    | true, false, some k => s.unbindLoop i new k
    | true, true, some k =>
      let s := if old.kind == new.kind then s.setLoop i fun l => { l with cfg := new }
               else s.rekindLoop i new k
      s.adjustLoop i old new
    | true, _, none => s

/-! ## Rooms, channels, windows -/

/-- 03 R48: a room record takes a new configuration; an absent floor limit clears the LIMITED mark. -/
def Room.rewrite (cfg : RoomCfg) (r : Room) : Room :=
  { r with cfg := cfg, limited := r.limited && cfg.floorLimit.isSome }

/-- 11 R169: a window entry written: ARMED, or DISARMED when its loop is none, with count 0. -/
def Window.rewrite (cfg : WindowCfg) (_ : Window) : Window :=
  { cfg := cfg, count := 0, state := if cfg.loop.isSome then .armed else .disarmed }

/-- 04 R68, R69; 07 R115: a channel takes a new configuration. A conversion of the old input is
discarded; a changed trim spoils the loops that the channel serves. -/
def State.applyChannel (s : State) (c : Fin 18) (cfg : ChannelCfg) : State :=
  let old := (s.channels.get c).cfg
  let s := s.setChannel c (Channel.rewrite cfg)
  let s := doWhen (old.input != cfg.input)
    (fun s => { s with converter := discardWhen (· == c) s.converter }) s
  doWhen (old.trim != cfg.trim)
    (fun s => s.spoilWhere fun l => s.profile.supply == c || l.cfg.channel == c) s

/-- 04 R69; 08 R130: a changed trim computes F afresh, so the alarm is tested on the supply channel. -/
def State.alarmAfterTrim (s : State) (c : Fin 18) (old : ChannelCfg) : State :=
  if s.profile.supply == c && old.trim != (s.channels.get c).cfg.trim then s.testAlarm else s

/-! ## The profile (02, R29) -/

/-- 02 R29; 08 R138: T_req held within changed request limits. -/
def State.clampRequest (s : State) (old : Profile) : State :=
  if old.requestMin == s.profile.requestMin && old.requestMax == s.profile.requestMax then s
  else { s with opening := { s.opening with
           tReq := clampTo s.profile.requestMin s.profile.requestMax s.opening.tReq } }

/-- 08 R130: do the alarm's limits change? -/
def alarmLimitsChange (old new : Profile) : Bool :=
  old.overLimit != new.overLimit || old.overHyst != new.overHyst

/-- 02 R29; 07 R111, R115, R122; 10 R167; 11 R175: the effects of a new profile other than those on
the channel references, the slot count and the alarm. `old` is the profile before. A raised B_min and a
changed supply channel spoil loops before a changed round length clears the marks, as R111 clears them at
a restart (DESIGN CHOICE, log entry 35: R29, R111 and R115 give no order). -/
def State.profileEffects (s : State) (old : Profile) : State :=
  let s := { s with flags := dropMasked old.noticeMask s.profile.noticeMask s.flags }
  let s := doWhen (decide (old.bMin < s.profile.bMin)) State.raiseBMin s
  let s := s.clampRequest old
  let s := doWhen (old.supply != s.profile.supply) (fun s => s.spoilWhere fun _ => true) s
  let s := doWhen (old.roundLength != s.profile.roundLength) State.restartRound s
  s.modProfile old

/-- 02 R25, R29: a profile write that takes effect. The alarm is tested, and its CALL formed, before
T_req is held within changed request limits (DESIGN CHOICE, log entry 35: R29, R131 and R138 give no
order). -/
def State.applyProfile (s : State) (new : Profile) : State :=
  let t := State.recount s (s.takeProfile new)
  let t := if alarmLimitsChange s.profile new then t.testAlarm else t
  t.profileEffects s.profile

end Sys2Proof.Machine
end

