-- ==== Sys2Proof/Machine/Store.lean ====
section
/-! DEFINITION. The settings store: the image, its check word, STORE and RECALL (02, section 2.6). -/

namespace Sys2Proof.Machine

/-- 02, section 2.6: everything the image holds except the check word, as the working tables stand. -/
def State.imageData (s : State) : ImageData where
  profile := s.profile
  rooms := s.rooms.map Room.cfg
  loops := s.loops.map LoopRec.cfg
  windows := s.windows.map Window.cfg
  channels := s.channels.map Channel.cfg
  written := s.windows.map fun w => w.cfg.loop.isSome
  bound := s.binding.map fun e =>
    match e with
    | .bound a r _ _ => some (a, r)
    | _ => none
  factors := s.loops.map fun l => if l.cfg.bound then l.b else none

/-- The values of the image in a fixed order. DESIGN CHOICE (log entry 14): the spec fixes that there
is an order, not which. -/
def ImageData.values (d : ImageData) : List Int :=
  d.profile.fields ++ d.rooms.toList.flatMap RoomCfg.fields ++ d.loops.toList.flatMap LoopCfg.fields
    ++ d.windows.toList.flatMap WindowCfg.fields ++ d.channels.toList.flatMap ChannelCfg.fields
    ++ d.written.toList.map codeBool
    ++ (d.bound.toList.flatMap fun e =>
        [codeOr (fun p : Nat × Fin 12 => (p.1 : Int)) e,
         codeOr (fun p : Nat × Fin 12 => (p.2.val : Int)) e])
    ++ d.factors.toList.map (codeOr id)

/-- 02, section 2.6: the check word of an image's contents, by the computation of 01 R1. -/
def ImageData.check (d : ImageData) : Word := checkWord (d.values.flatMap bytes16)

/-- 02, section 2.6: the image is valid when a complete write stands behind it and its stored check
word equals the one computed from its contents. -/
def Image.valid (i : Image) : Bool := i.complete && i.check == i.data.check

/-- 02 R35: the image that a verified STORE leaves. -/
def Image.written (d : ImageData) : Image := { data := d, check := d.check, complete := true }

/-- 02 R35: STORE is accepted: the copy is taken, the image is marked invalid. -/
def State.beginStore (s : State) (requester : Option (Nat × Nat)) : State :=
  { s with store := { s.store with
      state := .storing, powerUp := false, requester := requester, copy := some s.imageData
      image := { s.store.image with complete := false } } }

/-- 02 R36: RECALL is accepted. -/
def State.beginRecall (s : State) (requester : Option (Nat × Nat)) : State :=
  { s with store := { s.store with state := .recalling, powerUp := false, requester := requester } }

/-- 01 R10, R11: the deferred answer of a completed STORE (order code 6) or RECALL (7). -/
def RingPort.defer (r : RingPort) (requester : Option (Nat × Nat)) (payload : List Byte) : RingPort :=
  match requester with
  | none => r
  | some p => { r with deferred := some (r.answerFrame p.1 p.2 payload) }

/-- 02 R35, R36; 01 R11: the store returns to READY and the deferred answer is made, which enters the
own-send queue at once when there is a place. -/
def State.storeReady (s : State) (payload : List Byte) : State :=
  State.settle { s with
    ring := s.ring.defer s.store.requester payload
    store := { s.store with state := .ready, requester := none, copy := none } }

/-- 02 R35: a STORE completes; `verified` says that the verify matched. At a failed verify the notice of
STORE_FAILED enters the own-send queue before the deferred answer (DESIGN CHOICE, log entry 34: R35 and 01
R11 give no order within the step). -/
def State.completeStore (s : State) (verified : Bool) : State :=
  match verified, s.store.copy with
  | true, some d =>
    State.storeReady { s with store := { s.store with image := .written d } } [6#8, 0#8]
  | _, _ => (s.raiseFlag .storeFailed 255 0).storeReady [6#8, 5#8]

/-! ## A recalled image (02, R36; 03, R47, R48; 04, R73; 06, R108; 07, R123; 11, R170) -/

/-- 06 R108; 07 R115, R123: a loop record takes the image's configuration and, when it is bound in
the image, the stored B, which spoils a loop that stays bound and whose B changes. -/
def State.recallLoop (s : State) (i : Fin 16) (cfg : LoopCfg) (b : Option Int) : State :=
  let was := s.bound i
  let s := s.applyLoop i cfg (.stored b)
  if was && cfg.bound then
    s.setLoop i fun l => if l.b == b then l else { l with b := b, spoiled := true }
  else s

/-- 03 R48: a room record whose configuration differs is written. -/
def Room.recall (cfg : RoomCfg) (r : Room) : Room := if r.cfg == cfg then r else r.rewrite cfg

/-- 11 R170: a window entry whose configuration differs is written. -/
def Window.recall (cfg : WindowCfg) (w : Window) : Window := if w.cfg == cfg then w else w.rewrite cfg

/-- The trim of the channel that is the supply channel afterwards differs between two states. A RECALL that
names another supply channel and changes its trim thus tests the alarm against it (DESIGN CHOICE, log entry
42: 08 R133 leaves the alarm at a changed channel, R130 tests it when F of the supply channel is computed
afresh). -/
def supplyTrimChanged (old new : State) : Bool :=
  (old.channels.get new.profile.supply).cfg.trim != (new.channels.get new.profile.supply).cfg.trim

/-- 02 R36: the working configuration is replaced from a valid image in one step. -/
def State.applyImage (s : State) (d : ImageData) : State :=
  let t := { s.takeProfile d.profile with
                    rooms := s.rooms.mapIdx fun r room => room.recall (d.rooms.get r)
                    windows := s.windows.mapIdx fun w x => x.recall (d.windows.get w) }
  let t := forEach 18 (fun c t => t.applyChannel c (d.channels.get c)) t
  let t := forEach 16 (fun i t => t.recallLoop i (d.loops.get i) (d.factors.get i)) t
  let t := State.recount s (t.setBinding (recallBinding t.binding d.bound))
  let t := if alarmLimitsChange s.profile d.profile || supplyTrimChanged s t then t.testAlarm else t
  t.profileEffects s.profile

/-- 02 R36: a RECALL completes. An invalid image changes no table and sets no flag. The frames that the
recalled settings bring (a notice and a CALL of an alarm set) enter the own-send queue before the deferred
answer (DESIGN CHOICE, log entry 34: R36 and 01 R11 give no order within the step). -/
def State.completeRecall (s : State) : State :=
  if s.store.image.valid then (s.applyImage s.store.image.data).storeReady [7#8, 0#8]
  else s.storeReady [7#8, 5#8]

end Sys2Proof.Machine
end

