-- ==== Sys2Proof/Machine/Reset.lean ====
section
/-! DEFINITION. Power-up, the completion of the power-up recall, and RESTART (02, R33, R34, R37, and
the sections "after power-up and RESTART" of every chapter). -/

namespace Sys2Proof.Machine

/-- 02 R35: a power-up during STORING leaves the image invalid. (A STORE in progress has already
marked it so.) -/
def Store.afterPowerUp (st : Store) : Store where
  state := .recalling
  powerUp := true
  requester := none
  copy := none
  image := if st.state == .storing then { st.image with complete := false } else st.image

/-- 02 R30, R32: the part mode after a power-up with the given straps. -/
def modeFor (straps : Nat) : PartMode := if straps = 0 then .repeater else .start

/-- 02 R33: a power-up. Everything is as right after the first one but for the station address, the
part mode and the image. -/
def State.powerUp (s : State) (straps : Nat) : State :=
  { State.reset with
    pending := s.pending
    ring := .fresh straps
    mode := modeFor straps
    store := s.store.afterPowerUp }

/-- 11 R170: a window entry at a power-up, from its written marker. -/
def Window.atStart (written : Bool) (cfg : WindowCfg) : Window where
  cfg := cfg
  count := 0
  state := if written then .armed else .disarmed

/-- 06 R107: a loop record after a power-up. -/
def LoopRec.atStart (cfg : LoopCfg) (b : Option Int) : LoopRec :=
  .cleared cfg (if cfg.bound then .closed else .unbound) (if cfg.bound then b else none)

/-- 02 R37: the working tables built from an image's contents. Flags that became pending under the factory
notice mask stay pending under the image's mask (DESIGN CHOICE, log entry 36: 11 R175 speaks of a profile
write and a RECALL, and R37 says nothing of the pending-notice set). -/
def State.buildTables (s : State) (d : ImageData) : State :=
  let loops : Tab 16 LoopRec := d.loops.mapIdx fun i cfg => .atStart cfg (d.factors.get i)
  { s with
    profile := d.profile
    binding := bindingOf d.bound
    rooms := roomsAfresh (bindingOf d.bound) d.rooms
    loops := loops
    channels := channelsAfresh d.profile.supply loops d.channels
    windows := d.windows.mapIdx fun w cfg => .atStart (d.written.get w) cfg
    opening := { s.opening with tReq := d.profile.requestMin } }

/-- 06 R107; 09 R157; 10 R159: the heads of the bound loops are to be probed and are handed the
closed position, in ascending order. -/
def State.startHeads (s : State) : State := forEach 16 (fun i s => s.startHead i) s

/-- 02 R37: the power-up recall completes. The working tables are built from a valid image, or from
the factory defaults with STORE_EMPTY set. -/
def State.completePowerUp (s : State) : State :=
  let valid := s.store.image.valid
  let t := State.startHeads (s.buildTables (if valid then s.store.image.data else .factory))
  let t := { t with startRounds := 0
                    store := { t.store with state := .ready, powerUp := false } }
  if valid then t else t.raiseFlag .storeEmpty 255 0

/-! ## RESTART -/

/-- 09 R157: a head record at a RESTART. DEDUCED (log entry 21): the head of an unbound loop has no
commanded value. -/
def Head.restart (bound : Bool) (h : Head) : Head :=
  { h with commanded := if bound then h.commanded else none
           acked := none, misses := 0, unreachable := false, moving := none, wants := .nothing
           reswitched := false, confirming := false }

/-- 09 R157: the string at a RESTART: a command in flight keeps the string until its window closes. The
broadcast of a timing switch goes on and completes (DESIGN CHOICE, log entry 43: R157 speaks of a command
with a window only). -/
def StringState.restart (st : StringState) : StringState :=
  { st with transfer := st.transfer.map fun t => { t with void := true }, order := [] }

/-- 10 R159: the modulator at a RESTART, before the records are made afresh: the slot count is kept. -/
def Modulator.restart (m : Modulator) : Modulator := { m with recs := .fill none, queue := [] }

/-- 08 R133, R135, R138: the opening stage at a RESTART; D_max is kept (DESIGN CHOICE, log entry 23). -/
def OpeningStage.restart (p : Profile) (o : OpeningStage) : OpeningStage :=
  { OpeningStage.fresh p with dMax := o.dMax }

/-- 11 R179: a flag at a RESTART keeps its details. -/
def FlagRec.restart (f : FlagRec) : FlagRec := { f with set := false, pending := false }

/-- 02 R34: the restart of the part's working state, its tables kept. -/
def State.restart (s : State) : State :=
  let rooms := roomsAfresh s.binding (s.rooms.map Room.cfg)
  let channels := channelsAfresh s.profile.supply s.loops (s.channels.map Channel.cfg)
  State.startHeads { s with
    ring := { s.ring with pendingCall := none }
    mode := .start
    startRounds := 0
    rooms := rooms
    channels := channels
    converter := discardWhen (fun _ => true) s.converter
    loops := s.loops.map fun l => .atStart l.cfg l.b
    exercise := .none
    roundPos := 0
    interrupted := true
    opening := s.opening.restart s.profile
    heads := s.heads.mapIdx fun i h => h.restart (s.bound i)
    string := s.string.restart
    modulator := s.modulator.restart
    windows := s.windows.map fun w => .atStart w.cfg.loop.isSome w.cfg
    flags := s.flags.map FlagRec.restart }

end Sys2Proof.Machine
end

