-- ==== Sys2Proof/Machine/Orders.lean ====
section
/-! DEFINITION. Taking an order: the tests of 02 R19 to R22, the answers, and what each order does
(02, R23 to R31, R34 to R36; 03, R44, R46; 06, R90, R98 to R101; 09, R153; 11, R169, R177). -/

namespace Sys2Proof.Machine

/-- The answer codes (01, section 1.1). -/
inductive Answer where
  | done | clamped | busy | unknown | refused | failed
deriving DecidableEq, Repr

/-- An answer's code. -/
def Answer.code : Answer → Nat
  | .done => 0 | .clamped => 1 | .busy => 2 | .unknown => 3 | .refused => 4 | .failed => 5

/-- What the taking of an order comes to: its answer with its data, whether the answer waits for a
completion (01, R11), and its effect. -/
structure Taking where
  answer : Answer
  data : List Byte
  deferred : Bool
  act : State → State

/-- A failure answer carries no data and changes no state (02, R19). -/
def Taking.fail (a : Answer) : Taking where
  answer := a
  data := []
  deferred := false
  act := id

/-- DONE with data and an effect. -/
def Taking.doneWith (data : List Byte) (act : State → State) : Taking where
  answer := .done
  data := data
  deferred := false
  act := act

/-- 02 R20: the orders that the store test answers BUSY. -/
def storeGated (code : Nat) : Bool := [2, 5, 6, 7, 8, 9, 10, 11, 12, 14].contains code

/-- 02 R22: the orders that a broadcast may carry. -/
def broadcastable (code : Nat) : Bool := [4, 5, 6, 8].contains code

/-- 02 R19, test 1: the manager station accepts the origin. -/
def State.managerAccepts (s : State) (origin : Nat) : Bool :=
  s.profile.manager == 0 || s.profile.manager == origin

/-- 02 R19: the tests in their sequence. `form` is the argument form of R21, `run` the order's own
rule. -/
def State.judgeOrder (s : State) (origin code : Nat) (form : Bool) (run : State → Taking) : Taking :=
  if !s.managerAccepts origin then .fail .refused
  else if code = 0 ∨ 15 < code then .fail .unknown
  else if s.store.state != .ready && storeGated code then .fail .busy
  else if !form then .fail .refused
  else run s

/-- 01 R10: the ANS frame joins the own-send queue. -/
def State.pushAnswer (s : State) (src : OrderFrom) (code : Nat) (a : Answer) (data : List Byte) :
    State :=
  let f := s.ring.answerFrame src.origin src.tag ([byteOf code, byteOf a.code] ++ data)
  State.settle { s with ring := s.ring.push f }

/-- 01 R13; 02 section 2.1: an addressed order. Its answer takes the place that the test found, and
its effect follows in the same step (DEDUCED, log entry 17). -/
def State.takeAddressed (s : State) (src : OrderFrom) (code : Nat) (form : Bool)
    (run : State → Taking) : State :=
  if Config.ownPlaces ≤ s.ring.ownSend.length then
    s.raiseFlag .orderDropped 255 (pairValue src.origin src.tag)
  else
    let t := s.judgeOrder src.origin code form run
    t.act (if t.deferred then s else s.pushAnswer src code t.answer t.data)

/-- 02 R22: a broadcast order: executed without an answer, or ignored. -/
def State.takeBroadcast (s : State) (src : OrderFrom) (code : Nat) (form : Bool)
    (run : State → Taking) : State :=
  let t := s.judgeOrder src.origin code form run
  if s.profile.broadcast && broadcastable code && t.answer == .done then t.act s else s

/-- 01 R3, R15: an order reaches the handler when the part is not in REPEATER and the frame was not
stripped as the part's own (DEDUCED, log entry 12). -/
def State.hears (s : State) (src : OrderFrom) : Bool :=
  s.mode != .repeater && src.origin != s.ring.station && src.origin != 0

/-- An order taken (02, section 2.1). -/
def State.takeOrder (s : State) (src : OrderFrom) (code : Nat) (form : Bool)
    (run : State → Taking) : State :=
  if !s.hears src then s
  else if src.broadcast then s.takeBroadcast src code form run
  else s.takeAddressed src code form run

/-- The origin and tag to which a deferred answer goes; none for a broadcast (02, R22). -/
def requesterOf (src : OrderFrom) : Option (Nat × Nat) :=
  if src.broadcast then none else some (src.origin, src.tag)

/-- An argument byte as a number. -/
def argAt (args : List Byte) (k : Nat) : Nat := (args.getD k 0#8).toNat

/-- A two-byte argument (02, R21). -/
def argPair (args : List Byte) (k : Nat) : Int := signed16 (args.getD k 0#8) (args.getD (k + 1) 0#8)

/-- Exactly this many argument bytes (02, R21). -/
def hasLength (n : Nat) (args : List Byte) : Bool := args.length == n

/-! ## READ (02, R23) -/

/-- 02 R23. -/
def readTaking (args : List Byte) (s : State) : Taking :=
  let table := argAt args 0
  let index := argAt args 1
  let first := argAt args 2
  if tableEntries table ≤ index ∨ tableWidth table ≤ first then .fail .unknown
  else
    let n := min Config.readFields (tableWidth table - first)
    .doneWith (args ++ [byteOf n] ++
      (((s.tableFields table index).drop first).take n).flatMap bytes16) id

/-- The order READ. -/
def State.orderRead (s : State) (src : OrderFrom) (args : List Byte) : State :=
  s.takeOrder src 1 (hasLength 3 args) (readTaking args)

/-! ## WRITE (02, R24, R25) -/

/-- 02 R21: index, then 0 to 7 triples; `args` follows the table number. -/
def writeForm : List Byte → Bool
  | [] => false
  | _ :: triples => triples.length % 3 == 0 && decide (triples.length ≤ 21)

/-- The index and the pairs of a WRITE of the right form. -/
def writePairs : List Byte → Nat × Pairs
  | [] => (0, [])
  | i :: triples => (i.toNat, (pairsOf triples).getD [])

/-- 02 R25, R29: the effect of a profile write, none where it is refused. -/
def profileWrite (s : State) (v : Pairs) : Option (State → State) :=
  let new := Profile.ofFields (overlay s.profile.fields v)
  if new.requestMax < new.requestMin then none else some fun s => s.applyProfile new

/-- 03 R44, R45: the effect of a binding write. -/
def bindingWrite (s : State) (i : Fin 16) (v : Pairs) : Option (State → State) :=
  let fields := overlay (s.binding.get i).fields v
  let a := orAbsent Int.toNat (fields.getD 0 Config.noneCode)
  let r := orAbsent (finOf 12) (fields.getD 1 Config.noneCode)
  if v.isEmpty then some id
  else if bindingRefused s.binding i a r then none
  else some fun s => s.setBinding (bindEntry s.binding i a r)

/-- 03 R48: the effect of a room write. -/
def roomWrite (s : State) (r : Fin 12) (v : Pairs) : Option (State → State) :=
  let new := RoomCfg.ofFields (overlay (s.rooms.get r).cfg.fields v)
  some fun s => s.setRoom r (Room.rewrite new)

/-- 06 R90: is a loop write refused? -/
def loopRefused (s : State) (i : Fin 16) (new : LoopCfg) : Bool :=
  let old := (s.loops.get i).cfg
  decide (new.oMax < new.oMin) ||
    (new.room != old.room &&
      new.room.elim false fun r => decide (Config.loopsPerRoom ≤ s.loopCount r))

/-- 06 R90 to R93; 04 R57: the effect of a loop write. -/
def loopWrite (s : State) (i : Fin 16) (v : Pairs) : Option (State → State) :=
  let new := LoopCfg.ofFields (overlay (s.loops.get i).cfg.fields v)
  if loopRefused s i new then none
  else some fun s => State.recount s (s.applyLoop i new .seeded)

/-- 11 R169: the effect of a window write; a WRITE with no pairs re-arms the window. -/
def windowWrite (s : State) (w : Fin 8) (v : Pairs) : Option (State → State) :=
  let new := WindowCfg.ofFields (overlay (s.windows.get w).cfg.fields v)
  if new.high < new.low then none else some fun s => s.setWindow w (Window.rewrite new)

/-- 04 R56, R68, R69: the effect of a channel write. -/
def channelWrite (s : State) (c : Fin 18) (v : Pairs) : Option (State → State) :=
  let old := (s.channels.get c).cfg
  let new := ChannelCfg.ofFields (overlay old.fields v)
  some fun s => (s.applyChannel c new).alarmAfterTrim c old

/-- 02 R25: the owning table's part of a WRITE that passes R24. -/
def tableWrite (s : State) (table index : Nat) (v : Pairs) : Option (State → State) :=
  match table with
  | 0 => profileWrite s v
  | 1 => bindingWrite s (Fin.ofNat 16 index) v
  | 2 => roomWrite s (Fin.ofNat 12 index) v
  | 3 => loopWrite s (Fin.ofNat 16 index) v
  | 4 => windowWrite s (Fin.ofNat 8 index) v
  | 5 => channelWrite s (Fin.ofNat 18 index) v
  | _ => none

/-- 02 R24, R25: a WRITE. -/
def writeTaking (table : Nat) (args : List Byte) (s : State) : Taking :=
  let w := writePairs args
  match testPairs table w.1 w.2 with
  | .unknown => .fail .unknown
  | .refused => .fail .refused
  | .passed v clamped =>
    match tableWrite s table w.1 v with
    | none => .fail .refused
    | some act =>
      { answer := if clamped then .clamped else .done
        data := [byteOf table, byteOf w.1]
        deferred := false
        act := act }

/-- The order WRITE to a table; `args` follows the table number. -/
def State.orderWrite (s : State) (src : OrderFrom) (table : Nat) (args : List Byte) : State :=
  s.takeOrder src 2 (writeForm args) (writeTaking table args)

/-! ## STATUS, CLEAR, MODE (02, R26, R27, R31) -/

/-- 02 R26: all sixteen binding entries are BOUND. -/
def State.learningFull (s : State) : Bool := s.binding.count (fun e => e.room.isSome) == 16

/-- 02 R26: the string state byte. -/
def State.stringCode (s : State) : Nat :=
  (if s.string.timing == .fast then 1 else 0) + (if s.suspended then 2 else 0)

/-- The code of the store state (02, R26). -/
def StoreState.code : StoreState → Nat
  | .ready => 0 | .storing => 1 | .recalling => 2

/-- 02 R26: the ten bytes of STATUS. -/
def State.statusBytes (s : State) : List Byte :=
  [byteOf s.mode.code, byteOf s.opening.alarm.toNat, byteOf s.store.state.code,
   byteOf s.store.image.valid.toNat] ++ bytes16 s.flagBits ++
  [byteOf s.learningFull.toNat, byteOf s.stringCode] ++ bytes16 s.opening.tReq

/-- The order STATUS. -/
def State.orderStatus (s : State) (src : OrderFrom) (args : List Byte) : State :=
  s.takeOrder src 3 (hasLength 0 args) fun s => .doneWith s.statusBytes id

/-- 11 R173: a TRIPPED window becomes ARMED with count 0. -/
def Window.rearm (w : Window) : Window :=
  if w.state == .tripped then { w with state := .armed, count := 0 } else w

/-- 11 R177: CLEAR of the named flags. -/
def State.clearNamed (s : State) (names : Word) : State :=
  let s := { s with flags := clearFlags names s.flags }
  if names.getLsbD Flag.windowTrip.number then { s with windows := s.windows.map Window.rearm } else s

/-- The order CLEAR. -/
def State.orderClear (s : State) (src : OrderFrom) (args : List Byte) : State :=
  s.takeOrder src 4 (hasLength 2 args) fun _ =>
    .doneWith [] fun s => s.clearNamed (args.getD 0 0#8 ++ args.getD 1 0#8)

/-- The part mode a MODE order names (02, R21). -/
def modeArg (args : List Byte) : Option RunMode :=
  match argAt args 0 with
  | 1 => some .heating
  | 2 => some .summer
  | _ => none

/-- A mode of a MODE order or of the profile as a part mode. -/
def RunMode.part : RunMode → PartMode
  | .heating => .heating
  | .summer => .summer

/-- 02 R31; 07 R111: HEATING or SUMMER is entered. -/
def State.enterMode (s : State) (m : RunMode) : State :=
  let s := State.restartRound { s with mode := m.part }
  if m = .summer then { s with interval := 0 } else s

/-- 02 R31: a MODE in HEATING or SUMMER; leaving SUMMER ends an exercise. -/
def State.changeMode (s : State) (m : RunMode) : State :=
  if s.mode = m.part then s
  else State.enterMode (if s.mode = .summer then s.endExercise else s) m

/-- 02 R30, R31: MODE is refused in START. -/
def modeTaking (args : List Byte) (s : State) : Taking :=
  match s.mode, modeArg args with
  | .start, _ => .fail .refused
  | _, none => .fail .refused
  | _, some m => .doneWith [] fun s => s.changeMode m

/-- The order MODE. -/
def State.orderMode (s : State) (src : OrderFrom) (args : List Byte) : State :=
  s.takeOrder src 5 (hasLength 1 args && (modeArg args).isSome) (modeTaking args)

/-! ## STORE, RECALL, RESTART (02, R34 to R36) -/

/-- An order accepted whose answer waits for a completion. -/
def Taking.later (act : State → State) : Taking where
  answer := .done
  data := []
  deferred := true
  act := act

/-- The order STORE. -/
def State.orderStore (s : State) (src : OrderFrom) (args : List Byte) : State :=
  s.takeOrder src 6 (hasLength 0 args) fun _ => .later fun s => s.beginStore (requesterOf src)

/-- The order RECALL. -/
def State.orderRecall (s : State) (src : OrderFrom) (args : List Byte) : State :=
  s.takeOrder src 7 (hasLength 0 args) fun _ => .later fun s => s.beginRecall (requesterOf src)

/-- The order RESTART. -/
def State.orderRestart (s : State) (src : OrderFrom) (args : List Byte) : State :=
  s.takeOrder src 8 (hasLength 0 args) fun _ => .doneWith [] State.restart

/-! ## RESEED, HOLD, RELEASE, CLEARFAULT (02, R27, R28) -/

/-- The order RESEED. -/
def State.orderReseed (s : State) (src : OrderFrom) (args : List Byte) : State :=
  s.takeOrder src 9 (hasLength 0 args) fun _ => .doneWith [] State.reseedAll

/-- The loop an argument names; none above 15. -/
def loopArg (args : List Byte) : Option (Fin 16) :=
  if h : argAt args 0 < 16 then some ⟨argAt args 0, h⟩ else none

/-- 02 R28; 06 R98: HOLD. -/
def holdTaking (args : List Byte) (s : State) : Taking :=
  match loopArg args with
  | none => .fail .unknown
  | some i =>
    if (s.loops.get i).state = .unbound then .fail .refused
    else
      let v := argPair args 1
      let held := clampTo 0 Config.full v
      { answer := if held = v then .done else .clamped
        data := []
        deferred := false
        act := fun s => s.holdLoop i held }

/-- The order HOLD. -/
def State.orderHold (s : State) (src : OrderFrom) (args : List Byte) : State :=
  s.takeOrder src 10 (hasLength 3 args) (holdTaking args)

/-- 02 R28; 06 R99: RELEASE. -/
def releaseTaking (args : List Byte) (s : State) : Taking :=
  match loopArg args with
  | none => .fail .unknown
  | some i =>
    if (s.loops.get i).state = .held then .doneWith [] fun s => s.releaseLoop i else .fail .refused

/-- The order RELEASE. -/
def State.orderRelease (s : State) (src : OrderFrom) (args : List Byte) : State :=
  s.takeOrder src 11 (hasLength 1 args) (releaseTaking args)

/-- 02 R28; 06 R101: CLEARFAULT; a FAULT with reason HEAD is not cleared by it. -/
def clearFaultTaking (args : List Byte) (s : State) : Taking :=
  match loopArg args with
  | none => .fail .unknown
  | some i =>
    if (s.loops.get i).state = .fault ∧ (s.loops.get i).reason ≠ some .head then
      .doneWith [] fun s => s.clearFault i
    else .fail .refused

/-- The order CLEARFAULT. -/
def State.orderClearFault (s : State) (src : OrderFrom) (args : List Byte) : State :=
  s.takeOrder src 12 (hasLength 1 args) (clearFaultTaking args)

/-! ## STRING, FORGET, DISCOVER (02, R27; 03, R46; 09, R153) -/

/-- The timing a STRING order names (02, R21). -/
def timingArg (args : List Byte) : Option Timing :=
  match argAt args 0 with
  | 0 => some .basic
  | 1 => some .fast
  | _ => none

/-- 09 R153: the named timing becomes the requested timing; the present one withdraws a request. -/
def State.requestTiming (s : State) (t : Timing) : State :=
  { s with string := { s.string with requested := if s.string.timing = t then none else some t } }

/-- STRING. -/
def stringTaking (args : List Byte) (_ : State) : Taking :=
  match timingArg args with
  | none => .fail .refused
  | some t => .doneWith [] fun s => s.requestTiming t

/-- The order STRING. -/
def State.orderString (s : State) (src : OrderFrom) (args : List Byte) : State :=
  s.takeOrder src 13 (hasLength 1 args && (timingArg args).isSome) (stringTaking args)

/-- 03 R46: every LEARNED entry becomes FREE. -/
def State.forget (s : State) : State := { s with binding := forgetLearned s.binding }

/-- The order FORGET. -/
def State.orderForget (s : State) (src : OrderFrom) (args : List Byte) : State :=
  s.takeOrder src 14 (hasLength 0 args) fun _ => .doneWith [] State.forget

/-- 02 R27: the number of LEARNED entries, then up to seven of them, the most recent first. -/
def State.discoverBytes (s : State) : List Byte :=
  [byteOf (learnedCount s.binding)] ++
    ((learnedByRank s.binding).take 7).flatMap fun i =>
      [byteOf ((s.binding.get i).address.getD 0)] ++
        bytes16 ((s.binding.get i).lastAir.getD Config.noneCode)

/-- The order DISCOVER. -/
def State.orderDiscover (s : State) (src : OrderFrom) (args : List Byte) : State :=
  s.takeOrder src 15 (hasLength 0 args) fun s => .doneWith s.discoverBytes id

/-- 02 R19: an order whose code is not one of the list. -/
def State.orderOther (s : State) (src : OrderFrom) (code : Nat) : State :=
  s.takeOrder src code true fun _ => .fail .unknown

/-! ## The order handler -/

/-- 02, section 2.1: an order by its code, as a frame delivers it; `args` follows the order code. -/
def State.order (s : State) (src : OrderFrom) (code : Nat) (args : List Byte) : State :=
  match code with
  | 1 => s.orderRead src args
  | 2 =>
    match args with
    | [] => s.orderWrite src 0 []
    | table :: rest => s.orderWrite src table.toNat rest
  | 3 => s.orderStatus src args
  | 4 => s.orderClear src args
  | 5 => s.orderMode src args
  | 6 => s.orderStore src args
  | 7 => s.orderRecall src args
  | 8 => s.orderRestart src args
  | 9 => s.orderReseed src args
  | 10 => s.orderHold src args
  | 11 => s.orderRelease src args
  | 12 => s.orderClearFault src args
  | 13 => s.orderString src args
  | 14 => s.orderForget src args
  | 15 => s.orderDiscover src args
  | _ => s.orderOther src code

end Sys2Proof.Machine
end

