-- ==== Sys2Proof/Machine/OrderCommands.lean ====
section
/-! DEFINITION. The order commands, one definition each (02; 03; 04; 06; 07; 09; 11). A row carries the bytes after
the order code, or after the table number for a WRITE. -/

namespace Sys2Proof.Machine

/-- READ (02, R23). -/
def execRead (src : OrderFrom) (args : List Byte) (s : State) : Result := (s.orderRead src args).done

/-- WRITE_PROFILE (02, R29): a WRITE to table 0. -/
def execWriteProfile (src : OrderFrom) (args : List Byte) (s : State) : Result :=
  (s.orderWrite src 0 args).done

/-- WRITE_BINDING (03, R44, R45): a WRITE to table 1. -/
def execWriteBinding (src : OrderFrom) (args : List Byte) (s : State) : Result :=
  (s.orderWrite src 1 args).done

/-- WRITE_ROOM (03, R48): a WRITE to table 2. -/
def execWriteRoom (src : OrderFrom) (args : List Byte) (s : State) : Result :=
  (s.orderWrite src 2 args).done

/-- WRITE_LOOP (06, R90 to R93): a WRITE to table 3. -/
def execWriteLoop (src : OrderFrom) (args : List Byte) (s : State) : Result :=
  (s.orderWrite src 3 args).done

/-- WRITE_WINDOW (11, R169): a WRITE to table 4. -/
def execWriteWindow (src : OrderFrom) (args : List Byte) (s : State) : Result :=
  (s.orderWrite src 4 args).done

/-- WRITE_CHANNEL (04, R56, R68, R69): a WRITE to table 5. -/
def execWriteChannel (src : OrderFrom) (args : List Byte) (s : State) : Result :=
  (s.orderWrite src 5 args).done

/-- A WRITE that passes the pair tests of a table that can be written (02, R24). -/
def passesPairs (table : Nat) (args : List Byte) : Bool :=
  writeForm args &&
    match testPairs table (writePairs args).1 (writePairs args).2 with
    | .passed _ _ => true
    | .unknown => false
    | .refused => false

/-- WRITE_READ_ONLY_TABLE (02, R24): a WRITE to table 6 or 7, to a table above 7, or one that fails
the pair tests. A WRITE that passes them is a command of its table's own row and has no effect here
(DESIGN CHOICE, log entry 11). -/
def execWriteReadOnlyTable (src : OrderFrom) (table : Byte) (args : List Byte) (s : State) : Result :=
  if passesPairs table.toNat args then .next s else (s.orderWrite src table.toNat args).done

/-- STATUS (02, R26). -/
def execStatus (src : OrderFrom) (args : List Byte) (s : State) : Result := (s.orderStatus src args).done

/-- CLEAR (11, R173, R177). -/
def execClear (src : OrderFrom) (args : List Byte) (s : State) : Result := (s.orderClear src args).done

/-- MODE (02, R30, R31). -/
def execMode (src : OrderFrom) (args : List Byte) (s : State) : Result := (s.orderMode src args).done

/-- STORE (02, R35). -/
def execStore (src : OrderFrom) (args : List Byte) (s : State) : Result := (s.orderStore src args).done

/-- RECALL (02, R36). -/
def execRecall (src : OrderFrom) (args : List Byte) (s : State) : Result := (s.orderRecall src args).done

/-- RESTART (02, R34). -/
def execRestart (src : OrderFrom) (args : List Byte) (s : State) : Result :=
  (s.orderRestart src args).done

/-- RESEED (07, R121). -/
def execReseed (src : OrderFrom) (args : List Byte) (s : State) : Result := (s.orderReseed src args).done

/-- HOLD (06, R98). -/
def execHold (src : OrderFrom) (args : List Byte) (s : State) : Result := (s.orderHold src args).done

/-- RELEASE (06, R99). -/
def execRelease (src : OrderFrom) (args : List Byte) (s : State) : Result :=
  (s.orderRelease src args).done

/-- CLEARFAULT (06, R101). -/
def execClearfault (src : OrderFrom) (args : List Byte) (s : State) : Result :=
  (s.orderClearFault src args).done

/-- STRING (09, R153). -/
def execString (src : OrderFrom) (args : List Byte) (s : State) : Result := (s.orderString src args).done

/-- FORGET (03, R46). -/
def execForget (src : OrderFrom) (args : List Byte) (s : State) : Result := (s.orderForget src args).done

/-- DISCOVER (02, R27). -/
def execDiscover (src : OrderFrom) (args : List Byte) (s : State) : Result :=
  (s.orderDiscover src args).done

/-- ORDER_UNKNOWN (02, R19): an order code outside 1 to 15. A code of the list is a command of its own
row and has no effect here (DESIGN CHOICE, log entry 11). -/
def execOrderUnknown (src : OrderFrom) (code : Byte) (_args : List Byte) (s : State) : Result :=
  if 1 ≤ code.toNat ∧ code.toNat ≤ 15 then .next s else (s.orderOther src code.toNat).done

end Sys2Proof.Machine
end

