-- ==== Sys2Proof/Machine/Driver.lean ====
section
/-! DEFINITION. The string driver's events: transfers, answers, misses, timing switches and the
string supply (09, R146 to R156). -/

namespace Sys2Proof.Machine

/-- The other of the two timings. -/
def Timing.other : Timing → Timing
  | .basic => .fast
  | .fast => .basic

/-- 09 R146: a head's recorded timing, UNKNOWN taken as BASIC. -/
def Head.spokenAt (h : Head) : Timing := h.timing.getD .basic

/-! ## The next command of a head (09, R143, R146, R148, R150) -/

/-- 09 R143: the command for a close request under the kind it names. -/
def closeCommand : HeadKind → HeadCommand
  | .motor => .move 0 true
  | .thermal => .switch false true

/-- 09 R143: the command for the drive want of a bound loop's head. -/
def driveCommand (kind : Option HeadKind) (commanded : Option Int) : Option HeadCommand :=
  match kind, commanded with
  | some .motor, some v => some (.move v false)
  | some .thermal, some v => some (.switch (v != 0) false)
  | _, _ => none

/-- 09 R152: a head whose reported kind is known and is not its loop's is not driven. (Its drive want is
kept by R143 and R144, and held back until the kind is right: DEDUCED, log entry 32.) -/
def Head.drivable (kind : Option HeadKind) (h : Head) : Bool := h.kind.isNone || h.kind == kind

/-- 09 R143, R152: the command for the first want that a reachable head holds. -/
def Head.ordinary (timing : Timing) (kind : Option HeadKind) (h : Head) : Option HeadCommand :=
  if h.wants.timing then some (.setTiming timing)
  else match h.wants.close with
    | some k => some (closeCommand k)
    | none =>
      if h.wants.probe || h.wants.poll || h.wants.reprobe then some .probe
      else if h.wants.drive && h.drivable kind then driveCommand kind h.commanded
      else none

/-- 09 R146: the next command of a head that holds a want, and the timing at which it goes out. -/
def Head.next (timing : Timing) (kind : Option HeadKind) (h : Head) : Option (HeadCommand × Timing) :=
  if !h.wants.some? then none
  else if h.misses == 2 then some (.mismatchProbe, Timing.other h.missTiming)
  else if h.unreachable then
    if h.wants.reprobe then some (.reprobe, h.reprobeTiming) else some (.probe, .basic)
  else (h.ordinary timing kind).map fun c => (c, h.spokenAt)

/-- The next command of the head at a position. -/
def State.nextCommand (s : State) (h : Fin 16) : Option (HeadCommand × Timing) :=
  (s.heads.get h).next s.string.timing (s.boundKind h)

/-- The head is pending and its next command goes out at a timing. -/
def State.pendingAt (s : State) (t : Timing) (h : Fin 16) : Bool :=
  s.isPending h && (s.nextCommand h).elim false fun c => c.2 == t

/-- A pending head with a command to be sent. -/
def State.ready (s : State) (h : Fin 16) : Bool := s.isPending h && (s.nextCommand h).isSome

/-! ## Transfers (09, R146, R155) -/

/-- The group of a position (09, section 9.4). -/
def groupOf (h : Fin 16) : Fin 4 := Fin.ofNat 4 h.val

/-- The four positions of a group in steps of 4 from one of them, cyclically. -/
def ringFrom (h : Fin 16) : List (Fin 16) := [h, h + 4, h + 8, h + 12]

/-- 09 R150: a re-probe of the count turns its timing when it is sent. -/
def State.turnReprobe (s : State) (h : Fin 16) (c : HeadCommand) : State :=
  if c = .reprobe then s.setHead h fun d => { d with reprobeTiming := Timing.other d.reprobeTiming }
  else s

/-- 09 R146: the members are served in turn: the first that still has a command at the transfer's
timing gets it (DEDUCED, log entry 28); when none is left the transfer ends and its group is the last
served one. -/
def serve (group : Fin 4) (timing : Timing) : List (Fin 16) → State → State
  | [], s => { s with string := { s.string with transfer := none, lastGroup := group } }
  | h :: rest, s =>
    match s.nextCommand h with
    | some (c, t) =>
      if t = timing then
        let x : Transfer := { group := group, head := h, command := c, sentAt := timing, rest := rest,
                              void := false }
        State.turnReprobe { s with string := { s.string with transfer := some x } } h c
      else serve group timing rest s
    | none => serve group timing rest s

/-- 09 R146: a transfer led by a head: every pending head of its group whose next command has the
leading head's timing. -/
def State.startWith (s : State) (leader : Fin 16) : State :=
  match s.nextCommand leader with
  | none => s
  | some (_, t) => serve (groupOf leader) t ((ringFrom leader).filter (s.pendingAt t)) s

/-- 09 R146: the first group after the last served one with a pending head. -/
def State.nextGroup (s : State) : Option (Fin 4) :=
  let g := s.string.lastGroup
  [g + 1, g + 2, g + 3, g].find? fun g => (List.finRange 16).any fun h => groupOf h == g && s.ready h

/-- 09 R146: the head of a group that entered the pending set first. -/
def State.leaderOf (s : State) (g : Fin 4) : Option (Fin 16) :=
  s.string.order.find? fun h => groupOf h == g && s.ready h

/-- 09 R153: a requested switch waits to begin. -/
def State.switchWaits (s : State) : Bool :=
  s.string.requested.elim false fun t => t != s.string.timing

/-- 09 R146, R153: the string is free for a transfer or a broadcast. -/
def State.stringFree (s : State) : Bool :=
  s.string.transfer.isNone && s.string.broadcast.isNone && !s.suspended

/-- 09 R146: a transfer starts, if one may; a waiting switch goes first (R153). -/
def State.beginTransfer (s : State) : State :=
  if s.stringFree && !s.switchWaits then
    match s.nextGroup.bind s.leaderOf with
    | some h => s.startWith h
    | none => s
  else s

/-- 09 R155: the resumed transfer, led by the interrupted head or by the next pending head of its
group; without one the resume point is dropped. -/
def State.resume (s : State) : State :=
  match s.string.resume with
  | none => s
  | some h =>
    let s := { s with string := { s.string with resume := none } }
    match (ringFrom h).find? s.ready with
    | some leader => s.startWith leader
    | none => s

/-- 09 R146: the transfer goes on to its next member, or ends. -/
def State.goOn (s : State) (t : Transfer) : State := serve t.group t.sentAt t.rest s

/-- 09 R157: a transfer made void by a RESTART ends without serving its remaining members. Its group is
the last served one from then on (DESIGN CHOICE, log entry 40: R157 keeps the last served group and does
not say whether a transfer ended early counts). -/
def State.endVoid (s : State) (t : Transfer) : State :=
  { s with string := { s.string with transfer := none, lastGroup := t.group } }

/-! ## Answers (09, R147, R149, R150, R151, R152) -/

/-- Does this answer belong to this command (09, R142)? -/
def answers : HeadCommand → HeadAnswer → Bool
  | .move _ _, .accepted _ => true
  | .switch _ _, .accepted _ => true
  | .probe, .probed _ _ _ => true
  | .reprobe, .probed _ _ _ => true
  | .mismatchProbe, .probed _ _ _ => true
  | .setTiming _, .retimed _ => true
  | _, _ => false

/-- 09 R143, R147: the want that a command serves is ended. A close request made under another kind while the
first close command is in flight ends with the answer to the first (DESIGN CHOICE, log entry 39: a head has
one close want). -/
def Wants.ended (c : HeadCommand) (w : Wants) : Wants :=
  match c with
  | .move _ true => { w with close := none }
  | .move _ false => { w with drive := false }
  | .switch _ true => { w with close := none }
  | .switch _ false => { w with drive := false }
  | .probe => { w with probe := false, poll := false, reprobe := false }
  | .reprobe => { w with probe := false, poll := false, reprobe := false }
  | .mismatchProbe => { w with probe := false, poll := false, reprobe := false }
  | .setTiming _ => { w with timing := false }

/-- 09 R147: a MOVE or SWITCH answered by its own kind sets the acknowledged value. -/
def acknowledges : HeadCommand → HeadAnswer → Option Int
  | .move v _, .accepted .motor => some v
  | .switch on _, .accepted .thermal => some (if on then Config.full else 0)
  | _, _ => none

/-- 09 R147: kind and position of an answer. -/
def Head.report (a : HeadAnswer) (h : Head) : Head :=
  match a with
  | .accepted k => { h with kind := some k }
  | .probed k p _ => { h with kind := some k, position := some (p.val : Int) }
  | .retimed t => { h with timing := some t }

/-- 09 R147, R148, R150: the head record at an answer. -/
def Head.answered (c : HeadCommand) (sentAt : Timing) (a : HeadAnswer) (h : Head) : Head :=
  let h := { h with misses := 0, present := true, unreachable := false, timing := some sentAt
                    wants := h.wants.ended c
                    acked := (acknowledges c a).orElse fun _ => h.acked }
  h.report a

/-- 09 R149: a SET-TIMING answered with the string timing is to be confirmed by a PROBE (DEDUCED, log
entry 27). -/
def Head.retimed (timing : Timing) (a : HeadAnswer) (h : Head) : Head :=
  if a = .retimed timing then { h with confirming := true, wants := { h.wants with probe := true } }
  else h

/-- 09 R149: a PROBE answer ends a confirmation; at the string timing it clears the mark. -/
def Head.confirmed (timing sentAt : Timing) (h : Head) : Head :=
  if h.confirming then
    { h with confirming := false, reswitched := if sentAt = timing then false else h.reswitched }
  else h

/-- 09 R149: a head that answers at a timing other than the string timing is re-switched once. -/
def Head.reswitch (timing sentAt : Timing) (h : Head) : Head :=
  if sentAt ≠ timing ∧ h.reswitched = false then
    { h with reswitched := true, wants := { h.wants with timing := true } }
  else h

/-- 09 R149: what the answer means for the head's timing. -/
def Head.settleTiming (timing sentAt : Timing) (a : HeadAnswer) (h : Head) : Head :=
  match a with
  | .retimed _ => h.retimed timing a
  | .probed _ _ _ => (h.confirmed timing sentAt).reswitch timing sentAt
  | .accepted _ => h.reswitch timing sentAt

/-- 09 R151: an acknowledged MOVE other than a close starts a travel. -/
def State.startTravel (s : State) (h : Fin 16) (c : HeadCommand) : State :=
  match c with
  | .move _ false => if s.bound h then s.setHead h fun d => { d with moving := some 0 } else s
  | _ => s

/-- 09 R143: once its close request is answered, a head whose loop is unbound has no commanded value
and is left alone. Its other wants are dropped and its re-switched mark stands (DESIGN CHOICE, log entry 45:
R143 says both that other wants remain and that the head is left alone). -/
def State.leaveUnbound (s : State) (h : Fin 16) (c : HeadCommand) : State :=
  match c with
  | .move _ true | .switch _ true =>
    if s.bound h then s
    else s.setHead h fun d => { d with commanded := none, wants := .nothing }
  | _ => s

/-- The exercise phase of a loop ends when the given phase is the one in progress (06, R104, R105). -/
def State.phaseDone (s : State) (h : Fin 16) (p : Phase) : State :=
  match s.exercise.current with
  | some t => if t.loop = h ∧ t.phase = p then s.endPhase t else s
  | none => s

/-- 09 R147: an acknowledged SWITCH of a THERMAL loop is reported to the modulator (10, R162) and to
the loop records (06, R105). -/
def State.switchAcked (s : State) (h : Fin 16) (on : Bool) : State :=
  if s.boundKind h == some .thermal then
    if on then (s.switchOnAcked h).startCount h else s.phaseDone h .close
  else s

/-- 09 R147: the acknowledged value is reported on. -/
def State.reportAcked (s : State) (h : Fin 16) (c : HeadCommand) (a : HeadAnswer) : State :=
  match c, acknowledges c a with
  | .move _ _, some _ => s.startTravel h c
  | .switch on _, some _ => s.switchAcked h on
  | _, _ => s

/-- 09 R152: the kind check of a PROBE answer from a head of a bound loop. A head of a known wrong kind is
then not driven (Head.drivable). -/
def State.checkKind (s : State) (h : Fin 16) (reported : HeadKind) : State :=
  match s.boundKind h with
  | some k => if k = reported then s else s.kindEvent h reported
  | none => s

/-- 09 R151: an arrival is reported: the head settled mark of a MOTOR loop (06, R96) and the end of
an exercise phase (06, R104). -/
def State.reportArrival (s : State) (h : Fin 16) (p : Int) : State :=
  if s.boundKind h == some .motor then
    let s := s.setLoop h fun l => { l with settled := true }
    if Config.full - Config.arrivalBand ≤ p then s.phaseDone h .open
    else if p ≤ Config.arrivalBand then s.phaseDone h .close
    else s
  else s

/-- 09 R151: a travel ends. -/
def State.endTravel (s : State) (h : Fin 16) : State := s.setHead h fun d => { d with moving := none }

/-- 09 R151: the position within 10 permille of the acknowledged value. -/
def Head.arrived (p : Int) (d : Head) : Bool :=
  d.acked.elim false fun a => decide ((p - a).natAbs ≤ Config.arrivalBand.natAbs)

/-- 09 R151: a PROBE answer to a travelling head: arrival, stall, or the travel goes on. An arrival
that a newer MOVE has overtaken is not reported. A head that is both at its value and blocked has arrived
(DESIGN CHOICE, log entry 49). -/
def State.judgeTravel (s : State) (h : Fin 16) (p : Int) (blocked : Bool) : State :=
  let d := s.heads.get h
  if d.moving.isNone then s
  else if d.arrived p then
    if d.wants.drive then s.endTravel h else (s.endTravel h).reportArrival h p
  else if blocked then (s.endTravel h).stallEvent h
  else s

/-- 09 R151, R152: what a PROBE answer is further taken for. The kind check comes before the travel is
judged (DESIGN CHOICE, log entry 50). -/
def State.takeProbe (s : State) (h : Fin 16) (a : HeadAnswer) : State :=
  match a with
  | .probed k p blocked => (s.checkKind h k).judgeTravel h (p.val : Int) blocked
  | _ => s

/-- 09 R144: the drive want is judged when the acknowledged value is set and when a head leaves
UNREACHABLE. -/
def State.judgeAnswer (s : State) (h : Fin 16) (c : HeadCommand) (a : HeadAnswer)
    (wasUnreachable : Bool) : State :=
  if (acknowledges c a).isSome || wasUnreachable then s.judgeDrive h else s

/-- 09 R147 to R152: an answer within its window, before the transfer goes on. -/
def State.takeAnswer (s : State) (h : Fin 16) (t : Transfer) (a : HeadAnswer) : State :=
  let was := (s.heads.get h).unreachable
  let s := (s.leaveOrder h).setHead h (Head.answered t.command t.sentAt a)
  let s := s.setHead h (Head.settleTiming s.string.timing t.sentAt a)
  let s := s.leaveUnbound h t.command
  let s := s.headReleases h
  let s := s.judgeAnswer h t.command a was
  let s := s.reportAcked h t.command a
  s.takeProbe h a

/-- 09 R147: the head in flight answers. An answer that no open window awaits is ignored. The answer to a
transfer made void by a RESTART closes the window, and the transfer ends there (DESIGN CHOICE, log entry 44:
R157 does not say whether the string is held on until the window would have run out). -/
def State.answer (s : State) (h : Fin 16) (a : HeadAnswer) : State :=
  match s.string.transfer with
  | none => s
  | some t =>
    if t.head = h ∧ answers t.command a = true then
      if t.void then s.endVoid t else (s.takeAnswer h t a).goOn t
    else s

/-! ## Misses (09, R148, R150) -/

/-- 09 R148: the code of a command. -/
def HeadCommand.code : HeadCommand → Nat
  | .move _ _ => 1 | .switch _ _ => 2 | .probe => 3 | .reprobe => 3 | .mismatchProbe => 3
  | .setTiming _ => 4

/-- 09 R150: a re-probe that misses is over (DEDUCED, log entry 19). -/
def Wants.reprobeMissed (c : HeadCommand) (w : Wants) : Wants :=
  if c = .reprobe then { w with reprobe := false } else { w with probe := false, poll := false }

/-- 09 R148: a head becomes UNREACHABLE. -/
def Head.lose (h : Head) : Head :=
  { h with misses := 0, acked := none, moving := none, wants := .nothing, unreachable := true
           confirming := false, reprobeCount := 0, reprobeTiming := .basic }

/-- 09 R148; 10 R162: the head holds a SWITCH on that has not been carried out (DEDUCED, log entry 26). -/
def State.owesSwitchOn (s : State) (h : Fin 16) : Bool :=
  s.boundKind h == some .thermal && (s.heads.get h).wants.drive &&
    (s.heads.get h).commanded == some Config.full

/-- 09 R148; 06 R100: a head becomes UNREACHABLE, with what the modulator, the loop records and the
notice unit are told. -/
def State.headLost (s : State) (h : Fin 16) : State :=
  let owed := s.owesSwitchOn h
  let code := (s.heads.get h).firstMiss
  let s := s.setHead h Head.lose
  let s := if owed then s.notCarriedOut h else s
  let s := s.raiseFlag .headFault h.val (pairValue 255 code)
  if s.bound h then s.faultEvent h .head else s

/-- 09 R148, R150: the window of a command ends without an answer, before the transfer goes on. -/
def State.takeMiss (s : State) (h : Fin 16) (t : Transfer) : State :=
  let d := s.heads.get h
  let s := s.leaveOrder h
  if d.unreachable then
    s.setHead h fun d => { d with wants := d.wants.reprobeMissed t.command }
  else if Config.missLimit ≤ d.misses + 1 then s.headLost h
  else if d.misses = 0 then s.setHead h fun d => { d with misses := 1, firstMiss := t.command.code }
  else s.setHead h fun d => { d with misses := d.misses + 1, missTiming := t.sentAt }

/-- 09 R148: the answer window of the head in flight ends. -/
def State.windowEnds (s : State) (h : Fin 16) : State :=
  match s.string.transfer with
  | none => s
  | some t =>
    if t.head = h then if t.void then s.endVoid t else (s.takeMiss h t).goOn t else s

/-! ## Timing switch (09, R153) -/

/-- 09 R153, step 1: the broadcast begins. -/
def State.beginSwitch (s : State) : State :=
  match s.string.requested with
  | none => s
  | some t =>
    if s.stringFree && t != s.string.timing then
      { s with string := { s.string with broadcast := some t, requested := none } }
    else s

/-- 09 R153, step 3: a head record at a timing switch, also of a head whose loop is unbound (DESIGN CHOICE,
log entry 51). -/
def Head.switched (t : Timing) (h : Head) : Head :=
  let h := { h with reswitched := false, confirming := false }
  if h.present && !h.unreachable then
    { h with timing := some t, wants := { h.wants with probe := true } }
  else h

/-- 09 R153, steps 2 and 3: the broadcast has been sent. A request for the timing that now holds is
met (DEDUCED, log entry 25). -/
def State.endSwitch (s : State) : State :=
  match s.string.broadcast with
  | none => s
  | some t =>
    { s with
      heads := s.heads.map (Head.switched t)
      string := { s.string with
        timing := t, broadcast := none
        requested := if s.string.requested = some t then none else s.string.requested } }

/-! ## String supply (09, R154 to R156) -/

/-- 09 R153, R154: the request after an aborted broadcast: the switch begins again, unless a newer
request has been taken (DEDUCED, log entry 25). -/
def StringState.requestAgain (st : StringState) : Option Timing := st.requested.orElse fun _ => st.broadcast

/-- 09 R154: the sense falls below its threshold. The first fall suspends the driver and aborts what
is on the string. -/
def State.supplyDips (s : State) : State :=
  match s.string.monitor with
  | .dip => s
  | .recovering => { s with string := { s.string with monitor := .dip } }
  | .good =>
    { s with string := { s.string with
        monitor := .dip, longDip := false, transfer := none
        resume := s.string.transfer.map Transfer.head
        requested := s.string.requestAgain, broadcast := none } }

/-- 09 R154: the sense rises above its threshold. -/
def State.supplyRises (s : State) : State :=
  match s.string.monitor with
  | .dip => { s with string := { s.string with monitor := .recovering } }
  | .recovering => s
  | .good => s

/-- 09 R154, R155: two seconds of RECOVERING have passed: the driver resumes. -/
def State.supplyGood (s : State) : State :=
  match s.string.monitor with
  | .recovering =>
    State.resume { s with string := { s.string with monitor := .good, longDip := false } }
  | .dip => s
  | .good => s

/-- 09 R156: the heads that a long dip concerns. -/
def Head.dipped (h : Head) : Bool := h.present && !h.unreachable

/-- 09 R156: a head's settings may be lost. -/
def Head.forgetAcked (h : Head) : Head := if h.dipped then { h with acked := none, moving := none } else h

/-- 09 R156: the number of heads whose commands are pending again (DEDUCED, log entry 32). -/
def State.pendingAgain (s : State) : Nat := s.heads.count fun h => h.dipped && h.wants.drive

/-- 09 R156: a suspension reaches 60 s, once in each suspension (DEDUCED, log entry 13). -/
def State.dipIsLong (s : State) : State :=
  if s.suspended && !s.string.longDip then
    let s := { s with heads := s.heads.map Head.forgetAcked
                      string := { s.string with longDip := true } }
    let s := forEach 16 (fun i s => s.judgeDrive i) s
    s.raiseFlag .stringSupply 255 s.pendingAgain
  else s

/-! ## The driver at a control-round expiry (09, R150, R151) -/

/-- 09 R151: does this head stall at this expiry? -/
def State.stallsNow (s : State) (h : Fin 16) : Bool :=
  !s.suspended &&
    (s.heads.get h).moving.elim false fun n => decide (Config.stallRounds ≤ n + 1)

/-- 09 R143, R151: a poll is due, and is made unless the head holds a drive want. -/
def Head.poll (h : Head) : Head :=
  if h.wants.drive then h else { h with wants := { h.wants with poll := true } }

/-- 09 R151: a travelling head at an expiry. -/
def State.travelRound (s : State) (h : Fin 16) : State :=
  match (s.heads.get h).moving with
  | none => s
  | some n =>
    if s.stallsNow h then (s.endTravel h).stallEvent h
    else s.setHead h fun d => { d with moving := some (if s.suspended then n else n + 1) }.poll

/-- 09 R150: does the count of an UNREACHABLE head of a bound loop reach ten at this expiry? (Of a
bound loop alone: DEDUCED, log entry 29.) -/
def State.reprobeFalls (s : State) (h : Fin 16) : Bool :=
  (s.heads.get h).unreachable && s.bound h &&
    decide (Config.reprobeRounds ≤ (s.heads.get h).reprobeCount + 1)

/-- 09 R150: the re-probe count at an expiry. -/
def State.reprobeRound (s : State) (h : Fin 16) : State :=
  if s.reprobeFalls h then
    s.setHead h fun d => { d with reprobeCount := 0, wants := { d.wants with reprobe := true } }
  else if (s.heads.get h).unreachable && s.bound h then
    s.setHead h fun d => { d with reprobeCount := d.reprobeCount + 1 }
  else s

/-- 09 R150, R151: the driver's work at a control-round expiry. -/
def State.stringRound (s : State) : State :=
  forEach 16 (fun h s => (s.travelRound h).reprobeRound h) s

end Sys2Proof.Machine
end

