-- ==== Sys2Proof/Machine/RingIn.lean ====
section
/-! DEFINITION. Arrival of a frame on Ring IN (01, R2 to R7): the check and form tests, stripping,
local delivery with its content tests, and forwarding; the taking of a source report (08, R134). -/

namespace Sys2Proof.Machine

/-! ## The tests of an arrival (01, R2) -/

/-- 01 R1, R2: the check over all but the last two bytes equals those two, high byte first. Fewer
than two bytes hold no check and fail (DEDUCED, log entry 15). The last two bytes received are the check
whatever the length field says, so a frame whose length does not agree with its field can pass the check
and then fails the form test (DESIGN CHOICE, log entry 33: R2 tests the check first, and the header table
puts the check behind as many payload bytes as the field says). -/
def checkPasses (bs : List Byte) : Bool :=
  match bs.reverse with
  | lo :: hi :: rest => checkWord rest.reverse == (hi ++ lo : BitVec 16)
  | _ => false

/-- 01, section 1.1: the fields of a frame whose kind is known. -/
def readFrame (kind : FrameKind) (bs : List Byte) : Frame :=
  let at' := fun k => (bs.getD k 0#8).toNat
  { dest := at' 0, origin := at' 1, hop := at' 2, kind := kind, tag := at' 4
    payload := (bs.drop 6).take (at' 5)
    check := bs.getD (6 + at' 5) 0#8 ++ bs.getD (7 + at' 5) 0#8 }

/-- 01 R2: the form test. -/
def formTest (bs : List Byte) : Option Frame :=
  let at' := fun k => (bs.getD k 0#8).toNat
  if 8 ≤ bs.length ∧ bs.length ≤ 32 ∧ at' 5 ≤ 24 ∧ bs.length = 8 + at' 5 ∧ at' 0 ≤ 31 ∧
      1 ≤ at' 1 ∧ at' 1 ≤ 31 ∧ at' 2 ≤ 31 then
    (FrameKind.ofCode (at' 3)).map fun k => readFrame k bs
  else none

/-! ## The content tests (01, R7) -/

/-- The room mode of a report. -/
def RoomMode.ofCode : Nat → Option RoomMode
  | 0 => some .comfort | 1 => some .setback | 2 => some .off | _ => none

/-- The source state of a report. -/
def SourceState.ofCode : Nat → Option SourceState
  | 0 => some .run | 1 => some .defrost | 2 => some .idle | 3 => some .locked | _ => none

/-- 01 R7: an RRP payload; presence bits 3 to 7 are ignored. -/
def readReport (p : List Byte) : Option Report :=
  let presence := p.getD 0 0#8
  let hasFloor := presence.getLsbD 0
  if p.length = (if hasFloor then 8 else 6) then
    (RoomMode.ofCode (argAt p 5)).map fun m =>
      { air := argPair p 1, setpoint := argPair p 3, mode := m
        floor := if hasFloor then some (argPair p 6) else none
        windowOpen := presence.getLsbD 1, batteryLow := presence.getLsbD 2 }
  else none

/-- A source report as delivered: its state, minimum and maximum supply (01, section 1.1). -/
structure SourceReport where
  state : SourceState
  minimum : Int
  maximum : Int
deriving DecidableEq, Repr

/-- 01 R7: an SRP payload. -/
def readSource (p : List Byte) : Option SourceReport :=
  if p.length = 7 then
    (SourceState.ofCode (argAt p 2)).map fun st =>
      { state := st, minimum := argPair p 3, maximum := argPair p 5 }
  else none

/-! ## Delivery and forwarding (01, R3 to R7) -/

/-- 08 R134; 07 R113: the source record takes a source report. -/
def State.takeSource (s : State) (origin : Nat) (p : SourceReport) : State :=
  if s.profile.source = 0 ∨ s.profile.source = origin then
    { s with
      opening := { s.opening with source :=
        { state := p.state, minimum := some p.minimum, maximum := some p.maximum, age := 0
          lastOrigin := origin } }
      interrupted := s.interrupted || p.state != .run }
  else s

/-- 01 R7: RING_CHECK for a failed content test. -/
def State.contentFails (s : State) (origin : Nat) : State :=
  s.raiseFlag .ringCheck 255 (pairValue 3 origin)

/-- 01 R7: local delivery. -/
def State.deliver (s : State) (f : Frame) : State :=
  match f.kind with
  | .rrp =>
    match readReport f.payload with
    | some p => s.reportArrives f.origin p
    | none => s.contentFails f.origin
  | .srp =>
    match readSource f.payload with
    | some p => s.takeSource f.origin p
    | none => s.contentFails f.origin
  | .ord =>
    match f.payload with
    | code :: args =>
      s.order { origin := f.origin, tag := f.tag, broadcast := f.dest == 0 } code.toNat args
    | [] => s.contentFails f.origin
  | .call => s
  | .ans => s
  | .ntc => s

/-- 01 R5: the frame as it is forwarded. -/
def Frame.forwarded (f : Frame) : Frame := Frame.sealed { f with hop := f.hop - 1 }

/-- 01 R5, R6: a frame is forwarded. -/
def State.forward (s : State) (f : Frame) : State :=
  if f.hop = 0 then s
  else if Config.insertionPlaces ≤ s.ring.insertion.length then
    s.raiseFlag .ringOverrun 255 f.origin
  else State.settle { s with ring := { s.ring with insertion := s.ring.insertion ++ [f.forwarded] } }

/-- 01 R3, R4, R15: a frame that has passed its tests is stripped, delivered or forwarded. A broadcast
is delivered before it is forwarded (DESIGN CHOICE, log entry 16). -/
def State.dispatch (s : State) (f : Frame) : State :=
  if s.mode == .repeater then s.forward f
  else if f.origin = s.ring.station then s
  else if f.dest = s.ring.station then s.deliver f
  else if f.dest = 0 then (s.deliver f).forward f
  else s.forward f

/-- 01 R2: RING_CHECK for a frame that fails its check (1) or its form test (2). -/
def State.frameFails (s : State) (reason : Nat) : State :=
  s.raiseFlag .ringCheck 255 (pairValue reason 0)

/-- 01 R2: a frame arrives at its end delimiter. -/
def State.frameArrives (s : State) (bs : List Byte) : State :=
  if !checkPasses bs then s.frameFails 1
  else match formTest bs with
    | none => s.frameFails 2
    | some f => s.dispatch f

end Sys2Proof.Machine
end

