-- ==== Sys2Proof/Machine/Windows.lean ====
section
/-! DEFINITION. The supervision windows at a control-round expiry (11, R171, R172). -/

namespace Sys2Proof.Machine

/-- 11 R171: the quantity a window watches, when it is available. -/
def State.windowValue (s : State) (q : Quantity) (l : LoopRec) : Option Int :=
  match q with
  | .return => s.freshValue l.cfg.channel
  | .spread => s.spread l
  | .opening => some l.o

/-- 11 R171: the value at which an ARMED window is evaluated; none when it is not evaluated. -/
def State.evaluated (s : State) (w : Window) : Option Int :=
  if w.state == .armed then
    w.cfg.loop.bind fun i =>
      let l := s.loops.get i
      if l.state == .unbound || decide (l.o < w.cfg.qualifier) then none
      else s.windowValue w.cfg.quantity l
  else none

/-- 11 R172: does the value match the window? -/
def WindowCfg.matches (c : WindowCfg) (v : Int) : Bool :=
  let inside := decide (c.low ≤ v ∧ v ≤ c.high)
  if c.outside then !inside else inside

/-- 11 R172: the live count after an evaluation. -/
def Window.counted (v : Int) (w : Window) : Nat :=
  if w.cfg.matches v then w.count + 1 else if w.cfg.cumulative then w.count else 0

/-- 11 R172: does the window trip at a value? -/
def Window.trips (v : Int) (w : Window) : Bool :=
  w.cfg.matches v && decide (w.cfg.threshold ≤ w.counted v)

/-- 11 R172: a window trips: the flag, and the fault event when its action asks for it. -/
def State.trip (s : State) (w : Fin 8) (v : Int) : State :=
  let x := s.windows.get w
  let s := s.setWindow w fun x => { x with state := .tripped, count := x.cfg.threshold }
  let s := s.raiseFlag .windowTrip w.val v
  match x.cfg.faults, x.cfg.loop with
  | true, some i => s.faultEvent i .window
  | _, _ => s

/-- 11 R171, R172: one window at an expiry. -/
def State.watch (s : State) (w : Fin 8) : State :=
  let x := s.windows.get w
  match s.evaluated x with
  | none => s
  | some v => if x.trips v then s.trip w v else s.setWindow w fun x => { x with count := x.counted v }

/-- 11 R171: the windows of an expiry, in ascending order, in every part mode but REPEATER. A window is judged
at the O that the trips of earlier windows of the same expiry have left (DESIGN CHOICE, log entry 48: R171
says the O as just written and does not speak of an O that a trip writes in between). -/
def State.watchAll (s : State) : State :=
  if s.mode == .repeater then s else forEach 8 (fun w s => s.watch w) s

end Sys2Proof.Machine
end

