-- ==== Sys2Proof/Machine/Round.lean ====
section
/-! DEFINITION. The control-round expiry and its parts (08, R126 and the rules it draws together),
and the converter's slots (04, R60).

The table lists some parts of an expiry as steps of their own (START_END, ROOM_STALE_TIMEOUT, ...).
An expiry takes all of its parts. A row of a part is that part of the next expiry taken by itself,
the count it raises included: it has its effect exactly when that expiry would bring the event about,
and none otherwise (DEDUCED, log entry 7). -/

namespace Sys2Proof.Machine

/-- 02 R33: the power-up recall has not completed; control work has not begun. -/
def State.starting (s : State) : Bool := s.store.powerUp && s.store.state == .recalling

/-! ## The parts of an expiry -/

/-- 03 R43: the rounds since seen of every entry that holds an address rise. -/
def State.ageBinding (s : State) : State := { s with binding := s.binding.map BindingEntry.age }

/-- 03 R52, R53: every room ages. -/
def State.ageRooms (s : State) : State := forEach 12 (fun r s => s.ageRoom r) s

/-- 08 R135: the source record's age passes its limit at this expiry. -/
def State.sourceGoesStale (s : State) : Bool :=
  s.mode != .repeater && s.opening.source.age == Config.sourceFresh

/-- 08 R135; 07 R113: the age of the source record rises; past 10 the state is UNKNOWN. -/
def State.ageSource (s : State) : State :=
  if s.mode == .repeater then s
  else
    let src := s.opening.source
    let aged := { src with age := bump src.age }
    if s.sourceGoesStale then
      State.raiseFlag { s with
        opening := { s.opening with source := { aged with state := .unknown } }
        interrupted := true } .sourceStale 255 src.lastOrigin
    else { s with opening := { s.opening with source := aged } }

/-- 06 R100, R102 to R105; 02 R31: the loop records' work before the targets: unreachable heads,
degraded marks, exercise phases and turns, and the exercise interval. -/
def State.loopRound (s : State) : State :=
  s.catchUnreachable.markDegraded.countPhase.dueTurn.countInterval

/-- 08 R139: the CALL of an expiry in HEATING. -/
def State.roundCall (s : State) : State :=
  if s.mode == .heating then s.offerCall s.callPayload else s

/-- 02 R30: START ends at this expiry. -/
def State.startEnds (s : State) : Bool :=
  s.mode == .start && decide (Config.startRounds ≤ s.startRounds + 1)

/-- 02 R30: the START round count, and the end of START. -/
def State.startRound (s : State) : State :=
  if s.startEnds then
    State.enterMode { s with startRounds := s.startRounds + 1 } s.profile.modeAtStart
  else if s.mode == .start then { s with startRounds := s.startRounds + 1 }
  else s

/-- 08 R126: the whole work of a control-round expiry. The spec's order stands where it gives one;
the rest of the order is a DESIGN CHOICE (log entry 6). -/
def State.expiry (s : State) : State :=
  let s := s.ageBinding.ageRooms.ageSource
  let s := s.controlRooms.balanceExpiry
  let s := s.loopRound.writeTargets
  let s := s.modExpiry.stringRound
  let s := s.supplyRequest.watchAll
  s.roundCall.startRound

/-! ## When a part of the next expiry brings its event about -/

/-- 02 R31; 06 R103: the exercise interval reaches its end. -/
def State.intervalEnds (s : State) : Bool :=
  s.mode == .summer && decide (Config.exerciseInterval ≤ s.interval + 1)

/-- 06 R104, R105: the phase in progress ends. -/
def State.phaseFalls (s : State) : Bool :=
  s.exercise.current.elim false s.phaseEnds

/-- 07 R111: the round position reaches R. -/
def State.roundFalls (s : State) : Bool :=
  s.mode == .heating && decide (s.profile.roundLength ≤ s.roundPos + 1)

/-- 08 R136: a counter reaches 3. -/
def State.requestSteps (s : State) : Bool :=
  let d := largestDemand s.rooms
  s.mode == .heating &&
    ((decide (Config.demandHigh ≤ d) && decide (Config.requestRounds ≤ s.opening.up + 1)) ||
     (decide (d ≤ Config.demandLow) && decide (Config.requestRounds ≤ s.opening.down + 1)))

/-- 06 R96: an OPENING loop becomes OPEN. -/
def LoopRec.settles (l : LoopRec) : Bool :=
  l.state == .opening && decide (0 < l.o) && decide (l.settle ≤ 1) && l.settled

/-- 11 R172: the value at which a window trips; none when it does not. -/
def State.tripValue (s : State) (w : Fin 8) : Option Int :=
  if s.mode == .repeater then none
  else (s.evaluated (s.windows.get w)).filter fun v => (s.windows.get w).trips v

/-- 10 R159: the slot count of the next expiry is the loop's phase. -/
def State.startsPeriod (s : State) (i : Fin 16) : Bool :=
  (s.modulator.slotCount + 1) % s.profile.period == modPhase s.profile.period i

/-- 10 R160: a modulated loop's period starts. -/
def State.periodFalls (s : State) (i : Fin 16) : Bool := s.modulated i && s.startsPeriod i

/-- 10 R160, R163: one loop's period start, with the withdrawal of a request still waiting. -/
def State.onePeriod (s : State) (i : Fin 16) : State := (s.switchSlot i true).startPeriods [i]

/-- 10 R163: a loop's slot position rises. -/
def State.raiseSlot (s : State) (i : Fin 16) : State :=
  match s.modulator.recs.get i with
  | none => s
  | some r => s.setRec i (some { r with slotPos := min Config.slotCap (r.slotPos + 1) })

/-- 10 R163: a modulated loop's switch-off slot is taken. -/
def State.slotFalls (s : State) (i : Fin 16) : Bool :=
  s.modulated i && (s.modulator.recs.get i).elim false fun r =>
    min Config.slotCap (r.slotPos + 1) == r.onSlots &&
      (r.state == .waiting || (r.state != .idle && !s.startsPeriod i))

/-- 10 R162: a loop's warm-up count rises. -/
def State.raiseWarm (s : State) (i : Fin 16) : State :=
  match s.modulator.recs.get i with
  | none => s
  | some r => s.setRec i (some { r with warmCount := r.warmCount + 1 })

/-- 10 R162: a loop's warm-up completes. -/
def State.warmFalls (s : State) (i : Fin 16) : Bool :=
  (s.modulator.recs.get i).elim false fun r =>
    r.state == .warming && decide (s.profile.warmUp ≤ r.warmCount + 1)

/-- The part of an expiry that has its effect only when it falls due and control work has begun. -/
def State.whenDue (s : State) (due : Bool) (f : State → State) : State :=
  if due && !s.starting then f s else s

/-! ## The converter (04, R60, R61) -/

/-- 04 R60, R71: a conversion starts at the slot of a channel that is not UNUSED. -/
def State.startConversion (s : State) (c : Fin 18) : State :=
  if (s.channels.get c).state == .unused || s.starting then s
  else { s with converter := some { channel := c, discard := false } }

/-- 04 R60: the conversion in progress is this channel's and its result counts. -/
def State.resultCounts (s : State) (c : Fin 18) : Bool :=
  s.converter == some { channel := c, discard := false }

/-- 04 R60: the conversion in progress is this channel's. -/
def State.converting (s : State) (c : Fin 18) : Bool :=
  s.converter.elim false fun k => k.channel == c

/-- 04 R60, R61: a slot ends with a result, which may be discarded. -/
def State.endConversion (s : State) (c : Fin 18) (r : Conversion) : State :=
  if s.resultCounts c then State.takeResult { s with converter := none } c r
  else if s.converting c then { s with converter := none }
  else s

/-- A channel after a result (04, R61 to R67). -/
def State.channelAfter (s : State) (c : Fin 18) (r : Conversion) : Channel :=
  let ch := s.channels.get c
  ch.take (judgeResult ch.cfg.trim r)

/-- 04 R65, R67: the result brings the valid run to 3 and makes the channel FRESH. -/
def State.turnsFresh (s : State) (c : Fin 18) (r : Conversion) : Bool :=
  let old := (s.channels.get c).state
  (old == .filling || old == .lost) && (s.channelAfter c r).state == .fresh

/-- 04 R65: the result makes a FRESH channel AGING. -/
def State.turnsAging (s : State) (c : Fin 18) (r : Conversion) : Bool :=
  (s.channels.get c).state == .fresh && (s.channelAfter c r).state == .aging

/-- 04 R66, R67: the result brings the missed periods to 30 and empties the history. -/
def State.turnsLost (s : State) (c : Fin 18) (r : Conversion) : Bool :=
  (s.channelAfter c r).state == .lost &&
    ((s.channels.get c).state != .lost || (s.channelAfter c r).missed == Config.lostPeriods)

/-- A result delivered when it brings a transition about. -/
def State.resultWhen (s : State) (due : Bool) (c : Fin 18) (r : Conversion) : State :=
  if due && s.resultCounts c then s.endConversion c r else s

end Sys2Proof.Machine
end

