-- ==== Sys2Proof/Machine/ProbeCommands.lean ====
section
/-! DEFINITION. The commands of the probe front end (04). CHANNEL_FRESH, CHANNEL_AGING and CHANNEL_LOSS are the
results that bring these transitions about (DEDUCED, log entry 7). -/

namespace Sys2Proof.Machine

/-- CONVERSION_START (04, R60). -/
def execConversionStart (c : Fin 18) (s : State) : Result := .next (s.startConversion c)

/-- CONVERSION_RESULT (04, R60 to R67). -/
def execConversionResult (c : Fin 18) (r : Conversion) (s : State) : Result := (s.endConversion c r).done

/-- CHANNEL_FRESH (04, R65, R67). -/
def execChannelFresh (c : Fin 18) (r : Conversion) (s : State) : Result :=
  (s.resultWhen (s.turnsFresh c r) c r).done

/-- CHANNEL_AGING (04, R65). -/
def execChannelAging (c : Fin 18) (r : Conversion) (s : State) : Result :=
  (s.resultWhen (s.turnsAging c r) c r).done

/-- CHANNEL_LOSS (04, R66, R67). -/
def execChannelLoss (c : Fin 18) (r : Conversion) (s : State) : Result :=
  (s.resultWhen (s.turnsLost c r) c r).done

end Sys2Proof.Machine
end

