-- ==== Sys2Proof/Machine/RingCommands.lean ====
section
/-! DEFINITION. The commands of the ring port: FRAME_ARRIVAL and SEND_COMPLETE (01). -/

namespace Sys2Proof.Machine

/-- FRAME_ARRIVAL (01, R2 to R7): a whole frame arrives on Ring IN. -/
def execFrameArrival (bytes : List Byte) (s : State) : Result := (s.frameArrives bytes).done

/-- SEND_COMPLETE (01, R8, R9, R11): the frame being sent has left; the arbiter chooses and free places
are filled. Nothing completes while the out-port is IDLE (log entry 11). -/
def execSendComplete (s : State) : Result :=
  if s.ring.out.isSome then .next (State.settle { s with ring := { s.ring with out := none } })
  else .next s

end Sys2Proof.Machine
end

