-- ==== Sys2Proof/Machine/RoundCommands.lean ====
section
/-! DEFINITION. CONTROL_ROUND_EXPIRY and the rows that are parts of it (08, R126; see Round.lean). -/

namespace Sys2Proof.Machine

/-- CONTROL_ROUND_EXPIRY (08, R126). Before the power-up recall completes there is no control work
(02, R33; DEDUCED, log entry 24). -/
def execControlRoundExpiry (s : State) : Result := if s.starting then .next s else s.expiry.done

/-- START_END (02, R30). -/
def execStartEnd (s : State) : Result := (s.whenDue s.startEnds State.startRound).done

/-- EXERCISE_START (02, R31; 06, R103). -/
def execExerciseStart (s : State) : Result := (s.whenDue s.intervalEnds State.countInterval).done

/-- EXERCISE_PHASE_END (06, R104, R105). -/
def execExercisePhaseEnd (s : State) : Result := (s.whenDue s.phaseFalls State.countPhase).done

/-- BALANCING_ROUND_END (07, R111, R116, R117, R118): the engine's step alone. The round interruption mark
stays as it is, because R113 sets or clears it at a control-round expiry (DESIGN CHOICE, log entry 52). -/
def execBalancingRoundEnd (s : State) : Result := (s.whenDue s.roundFalls State.heatingRound).done

/-- ROOM_STALE_TIMEOUT (03, R52). -/
def execRoomStaleTimeout (room : Fin 12) (s : State) : Result :=
  (s.whenDue (s.rooms.get room).ageReport.goesStale fun s => s.ageReport room).done

/-- WINDOW_TIMEOUT (03, R53). -/
def execWindowTimeout (room : Fin 12) (s : State) : Result :=
  (s.whenDue (s.rooms.get room).windowTimesOut fun s => s.setRoom room Room.ageWindow).done

/-- SOURCE_RECORD_STALE (08, R135). -/
def execSourceRecordStale (s : State) : Result := (s.whenDue s.sourceGoesStale State.ageSource).done

/-- REQUEST_STEP (08, R136, R137). -/
def execRequestStep (s : State) : Result := (s.whenDue s.requestSteps State.heatingRequest).done

/-- LOOP_SETTLED (06, R96). -/
def execLoopSettled (i : Fin 16) (s : State) : Result :=
  (s.whenDue (s.loops.get i).settles fun s => s.setLoop i (LoopRec.judge s.profile.warmUp)).done

/-- WINDOW_TRIP (11, R172). -/
def execWindowTrip (w : Fin 8) (s : State) : Result :=
  (s.whenDue (s.tripValue w).isSome fun s => s.watch w).done

/-- HEAD_STALL (09, R151; 06, R100). -/
def execHeadStall (h : Fin 16) (s : State) : Result :=
  (s.whenDue (s.stallsNow h) fun s => s.travelRound h).done

/-- REPROBE_DUE (09, R150). -/
def execReprobeDue (h : Fin 16) (s : State) : Result :=
  (s.whenDue (s.reprobeFalls h) fun s => s.reprobeRound h).done

/-- PERIOD_START (10, R160). -/
def execPeriodStart (i : Fin 16) (s : State) : Result :=
  (s.whenDue (s.periodFalls i) fun s => s.onePeriod i).done

/-- SWITCH_OFF_SLOT (10, R163). -/
def execSwitchOffSlot (i : Fin 16) (s : State) : Result :=
  (s.whenDue (s.slotFalls i) fun s => (s.raiseSlot i).switchSlot i (s.startsPeriod i)).done

/-- WARM_UP_COMPLETE (10, R162). -/
def execWarmUpComplete (i : Fin 16) (s : State) : Result :=
  (s.whenDue (s.warmFalls i) fun s => (s.raiseWarm i).warmComplete i).done

end Sys2Proof.Machine
end

