-- ==== Sys2Proof/Machine/StoreCommands.lean ====
section
/-! DEFINITION. The commands of the settings store and of power-up (02, R33, R35 to R37). A completion
of an operation that does not run has no effect (DESIGN CHOICE, log entry 11). -/

namespace Sys2Proof.Machine

/-- STORE_COMPLETE (02, R35): only while the store is STORING. -/
def execStoreComplete (verified : Bool) (s : State) : Result :=
  if s.store.state == .storing then (s.completeStore verified).done else .next s

/-- RECALL_COMPLETE (02, R36): only while the store is RECALLING for an order. -/
def execRecallComplete (s : State) : Result :=
  if s.store.state == .recalling && !s.store.powerUp then s.completeRecall.done else .next s

/-- POWER_UP (02, R33): the supply rises or the reset is released; the straps are read. -/
def execPowerUp (straps : Fin 32) (s : State) : Result := .next (s.powerUp straps.val)

/-- POWER_UP_RECALL_COMPLETE (02, R37): only while the power-up recall runs. -/
def execPowerUpRecallComplete (s : State) : Result :=
  if s.starting then s.completePowerUp.done else .next s

end Sys2Proof.Machine
end

