-- ==== Sys2Proof/Machine/StringCommands.lean ====
section
/-! DEFINITION. The commands of the actuator string (09, R146 to R156). A transfer or a switch begins at
its own row (DEDUCED, log entry 10); an event that nothing awaits has no effect (log entry 11). -/

namespace Sys2Proof.Machine

/-- TRANSFER_START (09, R146). -/
def execTransferStart (s : State) : Result := s.beginTransfer.done

/-- HEAD_ANSWER (09, R147, R149 to R152). -/
def execHeadAnswer (h : Fin 16) (a : HeadAnswer) (s : State) : Result := (s.answer h a).done

/-- ANSWER_WINDOW_END (09, R148, R150). -/
def execAnswerWindowEnd (h : Fin 16) (s : State) : Result := (s.windowEnds h).done

/-- TIMING_SWITCH_BEGIN (09, R153, step 1). -/
def execTimingSwitchBegin (s : State) : Result := s.beginSwitch.done

/-- TIMING_BROADCAST_COMPLETE (09, R153, steps 2 and 3). -/
def execTimingBroadcastComplete (s : State) : Result := s.endSwitch.done

/-- STRING_SUPPLY_DIP (09, R154). -/
def execStringSupplyDip (s : State) : Result := s.supplyDips.done

/-- STRING_SUPPLY_RISE (09, R154). -/
def execStringSupplyRise (s : State) : Result := s.supplyRises.done

/-- STRING_SUPPLY_GOOD (09, R154, R155). -/
def execStringSupplyGood (s : State) : Result := s.supplyGood.done

/-- LONG_DIP (09, R156). -/
def execLongDip (s : State) : Result := s.dipIsLong.done

end Sys2Proof.Machine
end

