-- ==== Sys2Proof/Machine/Dispatch.lean ====
section
/-! DEFINITION. The meaning of every command: one arm per constructor of Instr. -/

namespace Sys2Proof.Machine

def exec (i : Instr) (s : State) : Host.Outcome State Fault Refusal :=
  match i with
  | .frameArrival bytes => Sys2Proof.Machine.execFrameArrival bytes s
  | .sendComplete => Sys2Proof.Machine.execSendComplete s
  | .read src args => Sys2Proof.Machine.execRead src args s
  | .writeProfile src args => Sys2Proof.Machine.execWriteProfile src args s
  | .writeBinding src args => Sys2Proof.Machine.execWriteBinding src args s
  | .writeRoom src args => Sys2Proof.Machine.execWriteRoom src args s
  | .writeLoop src args => Sys2Proof.Machine.execWriteLoop src args s
  | .writeWindow src args => Sys2Proof.Machine.execWriteWindow src args s
  | .writeChannel src args => Sys2Proof.Machine.execWriteChannel src args s
  | .writeReadOnlyTable src table args => Sys2Proof.Machine.execWriteReadOnlyTable src table args s
  | .status src args => Sys2Proof.Machine.execStatus src args s
  | .clear src args => Sys2Proof.Machine.execClear src args s
  | .mode src args => Sys2Proof.Machine.execMode src args s
  | .store src args => Sys2Proof.Machine.execStore src args s
  | .recall src args => Sys2Proof.Machine.execRecall src args s
  | .restart src args => Sys2Proof.Machine.execRestart src args s
  | .reseed src args => Sys2Proof.Machine.execReseed src args s
  | .hold src args => Sys2Proof.Machine.execHold src args s
  | .release src args => Sys2Proof.Machine.execRelease src args s
  | .clearfault src args => Sys2Proof.Machine.execClearfault src args s
  | .string src args => Sys2Proof.Machine.execString src args s
  | .forget src args => Sys2Proof.Machine.execForget src args s
  | .discover src args => Sys2Proof.Machine.execDiscover src args s
  | .orderUnknown src code args => Sys2Proof.Machine.execOrderUnknown src code args s
  | .storeComplete verified => Sys2Proof.Machine.execStoreComplete verified s
  | .recallComplete => Sys2Proof.Machine.execRecallComplete s
  | .powerUp straps => Sys2Proof.Machine.execPowerUp straps s
  | .powerUpRecallComplete => Sys2Proof.Machine.execPowerUpRecallComplete s
  | .conversionStart c => Sys2Proof.Machine.execConversionStart c s
  | .conversionResult c r => Sys2Proof.Machine.execConversionResult c r s
  | .channelFresh c r => Sys2Proof.Machine.execChannelFresh c r s
  | .channelAging c r => Sys2Proof.Machine.execChannelAging c r s
  | .channelLoss c r => Sys2Proof.Machine.execChannelLoss c r s
  | .controlRoundExpiry => Sys2Proof.Machine.execControlRoundExpiry s
  | .startEnd => Sys2Proof.Machine.execStartEnd s
  | .exerciseStart => Sys2Proof.Machine.execExerciseStart s
  | .exercisePhaseEnd => Sys2Proof.Machine.execExercisePhaseEnd s
  | .balancingRoundEnd => Sys2Proof.Machine.execBalancingRoundEnd s
  | .roomStaleTimeout room => Sys2Proof.Machine.execRoomStaleTimeout room s
  | .windowTimeout room => Sys2Proof.Machine.execWindowTimeout room s
  | .sourceRecordStale => Sys2Proof.Machine.execSourceRecordStale s
  | .requestStep => Sys2Proof.Machine.execRequestStep s
  | .loopSettled loop => Sys2Proof.Machine.execLoopSettled loop s
  | .windowTrip w => Sys2Proof.Machine.execWindowTrip w s
  | .headStall head => Sys2Proof.Machine.execHeadStall head s
  | .reprobeDue head => Sys2Proof.Machine.execReprobeDue head s
  | .periodStart loop => Sys2Proof.Machine.execPeriodStart loop s
  | .switchOffSlot loop => Sys2Proof.Machine.execSwitchOffSlot loop s
  | .warmUpComplete loop => Sys2Proof.Machine.execWarmUpComplete loop s
  | .transferStart => Sys2Proof.Machine.execTransferStart s
  | .headAnswer head ans => Sys2Proof.Machine.execHeadAnswer head ans s
  | .answerWindowEnd head => Sys2Proof.Machine.execAnswerWindowEnd head s
  | .timingSwitchBegin => Sys2Proof.Machine.execTimingSwitchBegin s
  | .timingBroadcastComplete => Sys2Proof.Machine.execTimingBroadcastComplete s
  | .stringSupplyDip => Sys2Proof.Machine.execStringSupplyDip s
  | .stringSupplyRise => Sys2Proof.Machine.execStringSupplyRise s
  | .stringSupplyGood => Sys2Proof.Machine.execStringSupplyGood s
  | .longDip => Sys2Proof.Machine.execLongDip s

end Sys2Proof.Machine
end

