-- ==== Sys2Proof/WellFormed.lean ====
section
/-! DEFINITION. Which commands the outside can really send: the check refuses a term whose operands
the spec rules out. The machine gives every command a meaning, well-formed or not. -/

namespace Sys2Proof

/-- The converter's span (04, R61): it delivers OPEN or SHORT beyond it. -/
def Conversion.wellFormed : Conversion → Bool
  | .reading r => decide (-3500 ≤ r ∧ r ≤ 10000)
  | .openProbe => true
  | .shortProbe => true

/-- A blocked indication comes from a MOTOR head, and a THERMAL head gives 1000 while on and 0 while
off (09, R142). -/
def HeadAnswer.wellFormed : HeadAnswer → Bool
  | .accepted _ => true
  | .probed .motor _ _ => true
  | .probed .thermal p b => !b && (p.val == 0 || p.val == 1000)
  | .retimed _ => true

/-- A frame's origin is 1 to 31 and its tag one byte (01, section 1.1). -/
def OrderFrom.wellFormed (o : OrderFrom) : Bool :=
  decide (1 ≤ o.origin ∧ o.origin ≤ 31 ∧ o.tag ≤ 255)

/-- An ORD payload is at most 24 bytes, the order code among them (01, section 1.1); `n` bytes of it
are fixed by the row. -/
def argsFit (n : Nat) (args : List Byte) : Bool := decide (n + args.length ≤ 24)

/-- The check of a whole command. -/
def Instr.wellFormed : Instr → Bool
  | .frameArrival _ => true
  | .sendComplete => true
  | .read src args => src.wellFormed && argsFit 1 args
  | .writeProfile src args => src.wellFormed && argsFit 2 args
  | .writeBinding src args => src.wellFormed && argsFit 2 args
  | .writeRoom src args => src.wellFormed && argsFit 2 args
  | .writeLoop src args => src.wellFormed && argsFit 2 args
  | .writeWindow src args => src.wellFormed && argsFit 2 args
  | .writeChannel src args => src.wellFormed && argsFit 2 args
  | .writeReadOnlyTable src _ args => src.wellFormed && argsFit 2 args
  | .status src args => src.wellFormed && argsFit 1 args
  | .clear src args => src.wellFormed && argsFit 1 args
  | .mode src args => src.wellFormed && argsFit 1 args
  | .store src args => src.wellFormed && argsFit 1 args
  | .recall src args => src.wellFormed && argsFit 1 args
  | .restart src args => src.wellFormed && argsFit 1 args
  | .reseed src args => src.wellFormed && argsFit 1 args
  | .hold src args => src.wellFormed && argsFit 1 args
  | .release src args => src.wellFormed && argsFit 1 args
  | .clearfault src args => src.wellFormed && argsFit 1 args
  | .string src args => src.wellFormed && argsFit 1 args
  | .forget src args => src.wellFormed && argsFit 1 args
  | .discover src args => src.wellFormed && argsFit 1 args
  | .orderUnknown src code args =>
      src.wellFormed && argsFit 1 args && decide (code.toNat = 0 ∨ 15 < code.toNat)
  | .storeComplete _ => true
  | .recallComplete => true
  | .powerUp _ => true
  | .powerUpRecallComplete => true
  | .conversionStart _ => true
  | .conversionResult _ r => r.wellFormed
  | .channelFresh _ r => r.wellFormed
  | .channelAging _ r => r.wellFormed
  | .channelLoss _ r => r.wellFormed
  | .controlRoundExpiry => true
  | .startEnd => true
  | .exerciseStart => true
  | .exercisePhaseEnd => true
  | .balancingRoundEnd => true
  | .roomStaleTimeout _ => true
  | .windowTimeout _ => true
  | .sourceRecordStale => true
  | .requestStep => true
  | .loopSettled _ => true
  | .windowTrip _ => true
  | .headStall _ => true
  | .reprobeDue _ => true
  | .periodStart _ => true
  | .switchOffSlot _ => true
  | .warmUpComplete _ => true
  | .transferStart => true
  | .headAnswer _ a => a.wellFormed
  | .answerWindowEnd _ => true
  | .timingSwitchBegin => true
  | .timingBroadcastComplete => true
  | .stringSupplyDip => true
  | .stringSupplyRise => true
  | .stringSupplyGood => true
  | .longDip => true

end Sys2Proof
end

