-- ==== Sys2Proof/Safety.lean ====
section
/-! DEFINITION. The terms that statements about the block use: what an order meets, what is sent, what
a frame leaves alone, and the invariants that every command keeps. -/

namespace Sys2Proof.Machine

/-! ## Frames on the ring -/

/-- A frame as the outside sends it: header and payload, then the check of 01 R1, high byte first. -/
def sealedBytes (body : List Byte) : List Byte :=
  body ++ [(checkWord body).extractLsb' 8 8, (checkWord body).extractLsb' 0 8]

/-- The header of 01, section 1.1, with a payload. -/
def frameBody (dest origin hop : Nat) (kind : FrameKind) (tag : Nat) (payload : List Byte) : List Byte :=
  [byteOf dest, byteOf origin, byteOf hop, byteOf kind.code, byteOf tag, byteOf payload.length] ++
    payload

/-- The header fields and the payload length lie in their ranges (01, section 1.1). -/
abbrev headerOk (dest origin hop tag : Nat) (payload : List Byte) : Prop :=
  dest ≤ 31 ∧ 1 ≤ origin ∧ origin ≤ 31 ∧ hop ≤ 31 ∧ tag ≤ 255 ∧ payload.length ≤ 24

/-- A frame that waits in the own-send queue or is being sent. -/
def State.sends (s : State) (f : Frame) : Prop := f ∈ s.ring.ownSend ∨ s.ring.out = some f

/-- An ANS frame to an order's source with this payload waits or is being sent (01, R10). -/
def State.answered (s : State) (src : OrderFrom) (payload : List Byte) : Prop :=
  ∃ f, s.sends f ∧ f.kind = .ans ∧ f.dest = src.origin ∧ f.origin = s.ring.station ∧ f.hop = 31 ∧
    f.tag = src.tag ∧ f.payload = payload

/-- A NTC frame for a flag waits or is being sent, or the flag is in the pending-notice set (11, R176). -/
def State.notified (s : State) (n : Fin 16) : Prop :=
  (s.flags.get n).pending = true ∨
    ∃ f, s.sends f ∧ f.kind = .ntc ∧ f.payload.head? = some (byteOf n.val)

/-- A frame addressed from `origin` as its bytes, check included, with the hop it arrives with. -/
def frameBytes (dest origin hop : Nat) (kind : FrameKind) (tag : Nat) (payload : List Byte) : List Byte :=
  sealedBytes (frameBody dest origin hop kind tag payload)

/-- The payload of a room report (01, section 1.1); bits 3 to 7 of the presence byte are `extra`, any. -/
def reportPayload (extra : Nat) (p : Report) : List Byte :=
  [byteOf (8 * extra + 4 * p.batteryLow.toNat + 2 * p.windowOpen.toNat + p.floor.isSome.toNat)] ++
    bytes16 p.air ++ bytes16 p.setpoint ++ [byteOf p.mode.code] ++ p.floor.elim [] bytes16

/-- The payload of a source report (01, section 1.1): two bytes that the part does not look at, the
state, the minimum and the maximum supply. -/
def sourcePayload (x y : Byte) (state : Nat) (minimum maximum : Int) : List Byte :=
  [x, y, byteOf state] ++ bytes16 minimum ++ bytes16 maximum

/-- A frame with these header fields and this payload, its check computed over them (01, R1). -/
def frameOf (dest origin hop : Nat) (kind : FrameKind) (tag : Nat) (payload : List Byte) : Frame :=
  Frame.sealed { dest := dest, origin := origin, hop := hop, kind := kind, tag := tag, payload := payload
                 check := 0#16 }

/-- 01 R1, R2: the last two bytes are the check over all the others, high byte first. -/
def passesCheck (bs : List Byte) : Prop :=
  ∃ body hi lo, bs = body ++ [hi, lo] ∧ checkWord body = (hi ++ lo : BitVec 16)

/-- 01 R2: the conditions of which each alone fails the form test. -/
abbrev failsForm (bs : List Byte) : Prop :=
  let at' := fun k => (bs.getD k 0#8).toNat
  bs.length < 8 ∨ 32 < bs.length ∨ 24 < at' 5 ∨ bs.length ≠ 8 + at' 5 ∨ 31 < at' 0 ∨ at' 1 = 0 ∨
    31 < at' 1 ∨ 31 < at' 2 ∨ at' 3 = 0 ∨ 6 < at' 3

/-- 01 R7: a payload fails the content test of its kind; CALL, ANS and NTC have none. -/
abbrev failsContent (kind : FrameKind) (payload : List Byte) : Prop :=
  let at' := fun k => (payload.getD k 0#8).toNat
  kind = .rrp ∧ (payload.length ≠ (if at' 0 % 2 = 1 then 8 else 6) ∨ 2 < at' 5) ∨
    kind = .srp ∧ (payload.length ≠ 7 ∨ 3 < at' 2) ∨ kind = .ord ∧ payload = []

/-- 03 R39: what becomes of an age rank when an entry of rank `k` becomes the most recent. -/
def risenBelow (k n : Nat) : Nat := if n < k then n + 1 else n

/-- A value that two bytes carry (02, R21). -/
abbrev inWord (v : Int) : Prop := -32768 ≤ v ∧ v ≤ 32767

/-- The values of a room report are such as two bytes carry. -/
def Report.inWords (p : Report) : Prop :=
  inWord p.air ∧ inWord p.setpoint ∧ ∀ f, p.floor = some f → inWord f

/-! ## Orders -/

/-- An addressed order that reaches the handler, from a station it accepts, with a free place for its
answer (01, R3, R13, R15; 02, R19 test 1). -/
abbrev State.accepts (s : State) (src : OrderFrom) : Prop :=
  src.broadcast = false ∧ s.mode ≠ .repeater ∧ src.origin ≠ s.ring.station ∧ src.origin ≠ 0 ∧
    (s.profile.manager = 0 ∨ s.profile.manager = src.origin) ∧ s.ring.ownSend.length < 8

/-- A broadcast order that reaches the handler and is not turned away for what it is (02, R22). -/
abbrev State.acceptsBroadcast (s : State) (src : OrderFrom) : Prop :=
  src.broadcast = true ∧ s.profile.broadcast = true ∧ s.mode ≠ .repeater ∧
    src.origin ≠ s.ring.station ∧ src.origin ≠ 0 ∧
    (s.profile.manager = 0 ∨ s.profile.manager = src.origin)

/-- The bytes of a field and value pair of a WRITE (02, R21). -/
def pairBytes (k : Nat) (v : Int) : List Byte := byteOf k :: bytes16 v

/-- The bytes of a WRITE after the table number: the index, then the pairs (02, R21). -/
def writeBytes (index : Nat) (ps : Pairs) : List Byte :=
  byteOf index :: ps.flatMap fun p => pairBytes p.1 p.2

/-- The command that is a WRITE to a table. -/
def writeTo (table : Nat) (src : OrderFrom) (args : List Byte) : Instr :=
  match table with
  | 0 => .writeProfile src args
  | 1 => .writeBinding src args
  | 2 => .writeRoom src args
  | 3 => .writeLoop src args
  | 4 => .writeWindow src args
  | 5 => .writeChannel src args
  | t => .writeReadOnlyTable src (byteOf t) args

/-- A configuration field of a table (02, section 2.2): its range of values or codes, whether a number
outside is clamped into it (a numeric field, or a flag set, which has no other value) or refused (a
selector), and whether it may be absent or none. -/
structure FieldRow where
  table : Nat
  field : Nat
  low : Int
  high : Int
  clamped : Bool
  mayBeNone : Bool
deriving DecidableEq, Repr

/-- A selector field. -/
def codes (table field : Nat) (low high : Int) : FieldRow := ⟨table, field, low, high, false, false⟩
/-- A selector field that may be none. -/
def codesOrNone (table field : Nat) (low high : Int) : FieldRow := ⟨table, field, low, high, false, true⟩
/-- A numeric field or a flag set. -/
def numbers (table field : Nat) (low high : Int) : FieldRow := ⟨table, field, low, high, true, false⟩
/-- A numeric field that may be absent. -/
def numbersOrNone (table field : Nat) (low high : Int) : FieldRow := ⟨table, field, low, high, true, true⟩

/-- The configuration fields as the field tables list them: the profile (02, section 2.3), the binding
entries (03, section 3.1), the room records (03, section 3.2), the loop records (06, section 6.1), the
windows (11, section 11.1) and the channels (04, section 4.1). -/
def fieldRows : List FieldRow :=
  [codes 0 0 0 31, codes 0 1 0 31, codes 0 2 0 1, codes 0 3 0 1, numbers 0 4 200 1000, numbers 0 5 0 200,
   numbers 0 6 10 100, numbers 0 7 0 100, numbers 0 8 50 500, numbers 0 9 100 500, numbers 0 10 5 30,
   numbers 0 11 2000 4500, numbers 0 12 2500 5500, numbers 0 13 10 200, numbers 0 14 3500 6000,
   numbers 0 15 200 1000, codes 0 16 0 17, numbers 0 17 8 60, numbers 0 18 1 10, numbers 0 19 1 16,
   numbers 0 20 0 100, numbers 0 21 (-32768) 32767, numbers 0 22 (-32768) 32767, codes 0 23 1 2] ++
  [codesOrNone 1 0 1 31, codesOrNone 1 1 0 11] ++
  [numbers 2 0 0 2000, numbers 2 1 0 1000, numbers 2 2 0 800, numbersOrNone 2 3 2500 3500,
   numbers 2 4 10 120, numbers 2 5 0 1000, numbers 2 6 10 120] ++
  [codesOrNone 3 0 0 11, codes 3 1 0 2, codes 3 2 0 17, numbers 3 3 50 3000, numbers 3 4 5 200,
   numbers 3 5 0 500, numbers 3 6 200 1000, numbers 3 7 0 1000, numbersOrNone 3 8 100 1000] ++
  [codesOrNone 4 0 0 15, codes 4 1 1 3, numbers 4 2 (-3000) 9500, numbers 4 3 (-3000) 9500, codes 4 4 0 1,
   numbers 4 5 0 1000, codes 4 6 0 1, numbers 4 7 1 255, codes 4 8 0 1] ++
  [codes 5 0 0 17, numbers 5 1 (-200) 200]

/-- The row of a field; none for a live field. -/
def fieldRow (table field : Nat) : Option FieldRow :=
  fieldRows.find? fun r => r.table == table && r.field == field

/-- 02 R24: the field can be given this value. -/
def FieldRow.admits (r : FieldRow) (v : Int) : Bool :=
  r.clamped || decide (r.low ≤ v ∧ v ≤ r.high) || (r.mayBeNone && decide (v = -32768))

/-- 02 R25: the value that the field then takes. -/
def FieldRow.taken (r : FieldRow) (v : Int) : Int :=
  if r.mayBeNone = true ∧ v = -32768 then v else max r.low (min r.high v)

/-- Up to seven pairs that can be written to a table (02, R24), the values `v` they then take, and whether
one of them is clamped (02, R25). -/
abbrev writable (table : Nat) (ps v : Pairs) (clamped : Bool) : Prop :=
  ps.length ≤ 7 ∧ (ps.map Prod.fst).Nodup ∧ (∀ p ∈ ps, inWord p.2) ∧
    (∀ p ∈ ps, (fieldRow table p.1).any (FieldRow.admits · p.2) = true) ∧
    v = ps.map (fun p => (p.1, (fieldRow table p.1).elim p.2 (FieldRow.taken · p.2))) ∧
    (clamped = true ↔ v ≠ ps)

/-- A value that may be absent or none, as READ shows it (02, section 2.2). -/
def shownOr (v : Option Int) : Int := v.getD (-32768)

/-- An on/off field or a mark, as READ shows it (02, section 2.2). -/
def shownBit (b : Bool) : Int := if b then 1 else 0

/-- An actuator kind, as READ shows it (06, section 6.1). -/
def shownKind (k : Option HeadKind) : Int :=
  match k with
  | none => 0 | some .motor => 1 | some .thermal => 2

/-- The profile's fields 0 to 23 (02, section 2.3). -/
def Profile.shown (p : Profile) : List Int :=
  [p.manager, p.source, shownBit p.broadcast, shownBit p.learn, p.spreadTarget, p.gain, p.stepLimit,
   p.deadband, p.bMin, p.eligibility, p.roundLength, p.requestMin, p.requestMax, p.requestStep, p.overLimit,
   p.overHyst, p.supply.val, p.period, p.warmUp, p.inrush, p.motorDeadband, p.noticeMask.toInt,
   p.alertMask.toInt, match p.modeAtStart with | .heating => 1 | .summer => 2]

/-- A binding entry's fields 0 to 5 (03, section 3.1). -/
def BindingEntry.shown : BindingEntry → List Int
  | .free => [-32768, -32768, 0, -32768, -32768, 0]
  | .bound a r last n => [a, r.val, 1, -32768, shownOr last, n]
  | .learned a k last n => [a, -32768, 2, k, last, n]

/-- A room record's fields 0 to 22 (03, section 3.2); field 22 counts the loops that name the room. -/
def State.shownRoom (s : State) (r : Fin 12) : List Int :=
  let x := s.rooms.get r
  let c := x.cfg
  [c.kp, c.ki, c.setback, shownOr c.floorLimit, c.staleTime, c.fallback, c.windowTimeout,
   (match x.state with | .unbound => 0 | .waiting => 1 | .active => 2 | .stale => 3),
   shownOr x.air, shownOr x.setpoint,
   (match x.mode with | some .comfort => 0 | some .setback => 1 | some .off => 2 | none => -32768),
   shownOr x.floor, shownBit x.windowOpen, shownBit x.batteryLow, x.sinceReport, shownBit x.windowMark,
   shownBit x.limited, shownBit x.implausible, x.windowRounds, shownBit x.lockout, x.integrator, x.demand,
   ((List.finRange 16).countP fun i => (s.loops.get i).cfg.room == some r : Nat)]

/-- A loop record's fields 0 to 19 (06, section 6.1). -/
def LoopRec.shown (l : LoopRec) : List Int :=
  let c := l.cfg
  [shownOr (c.room.map fun r => (r.val : Int)), shownKind c.kind, c.channel.val, c.heat, c.length, c.oMin,
   c.oMax, c.safe, shownOr c.seed,
   (match l.state with
    | .unbound => 0 | .closed => 1 | .opening => 2 | .open => 3 | .held => 4 | .fault => 5 | .exercise => 6),
   (match l.reason with
    | none => 0 | some .head => 1 | some .stall => 2 | some .kind => 3 | some .window => 4),
   shownOr l.b, l.o, shownOr l.hold, l.settle, shownOr l.openRef, shownBit l.settled, shownBit l.degraded,
   l.spreadCount, shownBit l.spoiled]

/-- A window's fields 0 to 10 (11, section 11.1). -/
def Window.shown (w : Window) : List Int :=
  let c := w.cfg
  [shownOr (c.loop.map fun i => (i.val : Int)),
   (match c.quantity with | .return => 1 | .spread => 2 | .opening => 3),
   c.low, c.high, shownBit c.outside, c.qualifier, shownBit c.cumulative, c.threshold, shownBit c.faults,
   w.count, match w.state with | .disarmed => 0 | .armed => 1 | .tripped => 2]

/-- A channel's fields 0 to 10 (04, section 4.1); field 8 counts its references (04, R57). -/
def State.shownChannel (s : State) (ch : Fin 18) : List Int :=
  let x := s.channels.get ch
  [x.cfg.input.val, x.cfg.trim,
   (match x.state with | .unused => 0 | .filling => 1 | .fresh => 2 | .aging => 3 | .lost => 4),
   shownOr x.filtered, x.history.length, x.writeIndex, x.validRun, x.missed,
   ((if s.profile.supply = ch then 1 else 0) + (List.finRange 16).countP fun i =>
     (s.loops.get i).cfg.bound && (s.loops.get i).cfg.channel == ch : Nat),
   (match x.lastResult with | .valid => 0 | .openProbe => 1 | .shortProbe => 2 | .outOfBand => 3 | .none => 4),
   shownOr x.lastReading]

/-- A head record's fields 0 to 8 (09, R141); field 7 is the head state by the first line of 09 R145
that applies. -/
def State.shownHead (s : State) (h : Fin 16) : List Int :=
  let d := s.heads.get h
  let w := d.wants
  [shownBit d.present, (match d.kind with | none => -32768 | some .motor => 1 | some .thermal => 2),
   (match d.timing with | some .basic => 0 | some .fast => 1 | none => 2),
   shownOr d.commanded, shownOr d.acked, shownOr d.position, d.misses,
   (if d.unreachable then 4
    else if s.string.transfer.any (fun x => x.head == h) then 2
    else if w.timing || w.close.isSome || w.probe || w.poll || w.reprobe || w.drive then 1
    else if d.moving.isSome then 3 else 0),
   shownOr (d.moving.map fun n => (n : Int))]

/-- What READ shows of an entry of a table that exists: its fields in field order. Table 7 is a channel's
history, newest sample first (04, R70). -/
def State.shown (s : State) (table index : Nat) : List Int :=
  match table with
  | 0 => s.profile.shown
  | 1 => (s.binding.get (Fin.ofNat 16 index)).shown
  | 2 => s.shownRoom (Fin.ofNat 12 index)
  | 3 => (s.loops.get (Fin.ofNat 16 index)).shown
  | 4 => (s.windows.get (Fin.ofNat 8 index)).shown
  | 5 => s.shownChannel (Fin.ofNat 18 index)
  | 6 => s.shownHead (Fin.ofNat 16 index)
  | 7 => (List.range 16).map fun k => shownOr (s.channels.get (Fin.ofNat 18 index)).history[k]?
  | _ => []

/-- 02 R25: the configuration fields of an entry of a table up to 5 read afterwards as they did before,
with the written values in their places. -/
def State.shows (t s : State) (table index : Nat) (v : Pairs) : Prop :=
  let n := [24, 2, 7, 9, 9, 2].getD table 0
  (t.shown table index).take n = ((s.shown table index).take n).mapIdx fun k old => (v.lookup k).getD old

/-- The answer code of a WRITE that takes effect (02, R25): CLAMPED or DONE. -/
def writeAnswer (clamped : Bool) : Nat := if clamped then 1 else 0

/-- The source and order code of a command that is an order. A WRITE_READ_ONLY_TABLE that passes the
pair tests and an ORDER_UNKNOWN with a listed code are no orders of their row. -/
def orderParts : Instr → Option (OrderFrom × Nat)
  | .read src _ => some (src, 1)
  | .writeProfile src _ => some (src, 2)
  | .writeBinding src _ => some (src, 2)
  | .writeRoom src _ => some (src, 2)
  | .writeLoop src _ => some (src, 2)
  | .writeWindow src _ => some (src, 2)
  | .writeChannel src _ => some (src, 2)
  | .writeReadOnlyTable src table args =>
    if passesPairs table.toNat args then none else some (src, 2)
  | .status src _ => some (src, 3)
  | .clear src _ => some (src, 4)
  | .mode src _ => some (src, 5)
  | .store src _ => some (src, 6)
  | .recall src _ => some (src, 7)
  | .restart src _ => some (src, 8)
  | .reseed src _ => some (src, 9)
  | .hold src _ => some (src, 10)
  | .release src _ => some (src, 11)
  | .clearfault src _ => some (src, 12)
  | .string src _ => some (src, 13)
  | .forget src _ => some (src, 14)
  | .discover src _ => some (src, 15)
  | .orderUnknown src code _ =>
    if 1 ≤ code.toNat ∧ code.toNat ≤ 15 then none else some (src, code.toNat)
  | _ => none

/-- The bytes after the order code of a command that is an order, or after the table number of a WRITE. -/
def orderArgs : Instr → List Byte
  | .read _ a | .writeProfile _ a | .writeBinding _ a | .writeRoom _ a | .writeLoop _ a
  | .writeWindow _ a | .writeChannel _ a | .writeReadOnlyTable _ _ a | .status _ a | .clear _ a
  | .mode _ a | .store _ a | .recall _ a | .restart _ a | .reseed _ a | .hold _ a | .release _ a
  | .clearfault _ a | .string _ a | .forget _ a | .discover _ a | .orderUnknown _ _ a => a
  | _ => []

/-- 02 R21: how many bytes follow the order code of each order but WRITE. -/
def orderForms : List (Nat × Nat) :=
  [(1, 3), (3, 0), (4, 2), (5, 1), (6, 0), (7, 0), (8, 0), (9, 0), (10, 3), (11, 1), (12, 1), (13, 1),
   (14, 0), (15, 0)]

/-- The row of the order that an ORD payload carries (01, section 1.1; 02, section 2.1). A WRITE without a
table number has no form of R21, and any WRITE row stands for it. -/
def orderRow (src : OrderFrom) (code : Byte) (args : List Byte) : Instr :=
  match code.toNat with
  | 1 => .read src args
  | 2 =>
    match args with
    | [] => .writeProfile src []
    | table :: rest => writeTo table.toNat src rest
  | 3 => .status src args
  | 4 => .clear src args
  | 5 => .mode src args
  | 6 => .store src args
  | 7 => .recall src args
  | 8 => .restart src args
  | 9 => .reseed src args
  | 10 => .hold src args
  | 11 => .release src args
  | 12 => .clearfault src args
  | 13 => .string src args
  | 14 => .forget src args
  | 15 => .discover src args
  | _ => .orderUnknown src code args

/-! ## Frames of effects -/

/-- Every flag but those named keeps its set bit and its kept detail. A notice may have been queued, so
the pending-notice set is not spoken of. -/
def flagsKept (names : List Flag) (s t : State) : Prop :=
  ∀ n : Fin 16, (∀ f ∈ names, f.number ≠ n) →
    (t.flags.get n).set = (s.flags.get n).set ∧ (t.flags.get n).index = (s.flags.get n).index ∧
      (t.flags.get n).value = (s.flags.get n).value

/-- A flag is set with this detail. -/
def State.flagged (s : State) (f : Flag) (index : Nat) (value : Int) : Prop :=
  (s.flags.get f.number).set = true ∧ (s.flags.get f.number).index = index ∧
    (s.flags.get f.number).value = value

/-- Only the ring port and the notice unit differ (an answer or a notice was queued). -/
def ringOnly (s t : State) : Prop := t = { s with ring := t.ring, flags := t.flags }

/-- 01 R8, R9, R11: the ring port after it originates a frame between commands: the frame joins the
tail of the own-send queue, or goes out at once from an IDLE out-port, whose queues are then empty. -/
def RingPort.originated (r : RingPort) (f : Frame) : RingPort :=
  if r.out.isSome then { r with ownSend := r.ownSend ++ [f] } else { r with out := some f, streak := 0 }

/-- 01 R5, R8, R9: the ring port after it places a received frame in the insertion queue between
commands. -/
def RingPort.passedOn (r : RingPort) (f : Frame) : RingPort :=
  if r.out.isSome then { r with insertion := r.insertion ++ [f] }
  else { r with out := some f, streak := 0 }

/-- 01 R10: the ANS frame for an order, with its order code, answer code and data. -/
def State.ansFor (s : State) (src : OrderFrom) (code answer : Nat) (data : List Byte) : Frame :=
  Frame.sealed { dest := src.origin, origin := s.ring.station, hop := 31, kind := .ans, tag := src.tag
                 payload := [byteOf code, byteOf answer] ++ data, check := 0#16 }

/-- The part with the answer to an order on its way, and nothing else changed. -/
def State.withAnswer (s : State) (src : OrderFrom) (code answer : Nat) (data : List Byte) : State :=
  { s with ring := s.ring.originated (s.ansFor src code answer data) }

/-- The part with an order's answer on its way; a broadcast has none (02, R22). -/
def State.taken (s : State) (src : OrderFrom) (code answer : Nat) (data : List Byte) : State :=
  if src.broadcast then s else s.withAnswer src code answer data

/-- The ring port of `t` is that of `s` but for NTC frames originated in between (11, R176). -/
def noticesOnly (s t : State) : Prop :=
  t.ring.station = s.ring.station ∧ t.ring.insertion = s.ring.insertion ∧
    t.ring.pendingCall = s.ring.pendingCall ∧ t.ring.deferred = s.ring.deferred ∧
    ∃ l : List Frame, (∀ f ∈ l, f.kind = .ntc) ∧ t.ring.ownSend = s.ring.ownSend ++ l ∧
      (t.ring.out = s.ring.out ∨ s.ring.out = none ∧ ∃ f, t.ring.out = some f ∧ f.kind = .ntc)

/-- 01 R4, R5, R6: a frame has been delivered with the outcome `t`. One addressed to the part ends there; a
broadcast travels on: not with hop 0, else as a frame with the hop one lower while the insertion queue has a
place, and RING_OVERRUN is set while it has none. -/
def State.relayed (t : State) (dest origin hop : Nat) (kind : FrameKind) (tag : Nat) (payload : List Byte)
    (u : State) : Prop :=
  if dest ≠ 0 ∨ hop = 0 then u = t
  else if t.ring.insertion.length < 6 then
    u = { t with ring := t.ring.passedOn (frameOf dest origin (hop - 1) kind tag payload) }
  else ringOnly t u ∧ noticesOnly t u ∧ u.flagged .ringOverrun 255 origin ∧ flagsKept [.ringOverrun] t u

/-- 01 R10: a CALL or NTC frame of the part's own carries the next value of its tag counter. -/
def State.nextTag (s : State) : Nat := (s.ring.ownTag + 1) % 256

/-- 01 R10, R12: a CALL of the part's own with the given tag. -/
def State.callFrame (s : State) (tag : Nat) (payload : List Byte) : Frame :=
  frameOf 0 s.ring.station 31 .call tag payload

/-- 11, section 11.3: the priority of a flag number. -/
def noticePriority (n : Nat) : Nat := if n = 0 then 3 else if n ≤ 5 then 2 else if n ≤ 11 then 1 else 0

/-- 11 R176; 01 R10: the notice of a flag, to the manager station, with the flag's kept detail. -/
def State.noticeFrame (s : State) (n : Fin 16) : Frame :=
  let f := s.flags.get n
  frameOf s.profile.manager s.ring.station 31 .ntc s.nextTag
    ([byteOf n.val, byteOf (noticePriority n.val), byteOf f.index] ++ bytes16 f.value)

/-- 11 R176: this pending flag is the next to be noticed: the highest priority, then the lowest number. -/
def State.nextNotice (s : State) (n : Fin 16) : Prop :=
  (s.flags.get n).pending = true ∧ ∀ m, (s.flags.get m).pending = true →
    noticePriority m.val < noticePriority n.val ∨ noticePriority m.val = noticePriority n.val ∧ n ≤ m

/-! ## Grants, the alarm and the exercise -/

/-- 10 R161: `t` is `u` after the grants that are due: the first loops of the waiting queue fill the
warm-up set up to the limit. Each is commanded on and GRANTED, or WARMING at once where its head is
acknowledged on and holds no drive want (that an exercise count then starts is log entry 30, that a want held from before counts log entry 47). -/
def State.grantsFrom (u t : State) (limit : Nat) : Prop :=
  let n := min u.modulator.queue.length (limit - u.warmUps)
  let taken := u.modulator.queue.take n
  let warms := fun i : Fin 16 => (u.heads.get i).acked = some 1000 ∧ (u.heads.get i).wants.drive = false
  t = { u with
    heads := t.heads
    string := { u.string with order := t.string.order }
    modulator := { u.modulator with recs := t.modulator.recs, queue := u.modulator.queue.drop n }
    exercise := match u.exercise.current with
      | none => u.exercise
      | some x =>
        if x.loop ∈ taken ∧ x.phase = .open ∧ x.count = none ∧ warms x.loop then
          { u.exercise with current := some { x with count := some 0 } }
        else u.exercise } ∧
  (∀ i, i ∉ taken → t.heads.get i = u.heads.get i ∧ t.modulator.recs.get i = u.modulator.recs.get i) ∧
  ∀ i ∈ taken,
    let h := u.heads.get i
    t.heads.get i = { h with commanded := some 1000, wants := (t.heads.get i).wants } ∧
    ((t.heads.get i).wants.drive = true ↔ h.wants.drive = true ∨ h.unreachable = false ∧
      (h.kind = none ∨ h.kind = some .thermal) ∧ h.acked ≠ some 1000) ∧
    ∀ m, u.modulator.recs.get i = some m → t.modulator.recs.get i =
      some (if warms i then { m with state := .warming, warmCount := 0 } else { m with state := .granted })

/-- The payload of a CALL formed while the alarm is set (08, R131, R139): T_req, pump request off, D_max,
loops open 0, alarm state 1. -/
def State.alarmPayload (u : State) : List Byte :=
  bytes16 u.opening.tReq ++ [0#8] ++ bytes16 u.opening.dMax ++ [0#8, 1#8]

/-- 08 R131, R130: `t` is `u` after the alarm has been set at F_supply `f`: SUPPLY_OVERTEMP is set, every O
is 0, every modulation record IDLE and the waiting queue empty, the heads are commanded shut or off, an
exercise open phase has passed to its close phase, the round is marked, and a CALL is on its way in HEATING
or where one waited. (The order of these is log entry 22.) -/
def State.alarmRaised (u t : State) (f : Int) : Prop :=
  t = { u with
    opening := { u.opening with alarm := true }
    interrupted := true, loops := t.loops, heads := t.heads, ring := t.ring, flags := t.flags
    string := { u.string with order := t.string.order }
    modulator := { u.modulator with recs := t.modulator.recs, queue := [] }
    exercise := match u.exercise.current with
      | none => u.exercise
      | some x =>
        if x.phase = .open then
          { u.exercise with current := some { loop := x.loop, phase := .close, count := some 0 } }
        else u.exercise } ∧
  t.flagged .supplyOvertemp u.profile.supply.val f ∧ flagsKept [.supplyOvertemp] u t ∧
  (∀ i, t.loops.get i = { u.loops.get i with o := 0, settled := (t.loops.get i).settled }) ∧
  (∀ i, t.modulator.recs.get i =
    (u.modulator.recs.get i).map fun m => { m with state := .idle, warmCount := 0 }) ∧
  (∀ i, t.heads.get i = { u.heads.get i with
    commanded := if (u.modulator.recs.get i).isSome = true ∨ u.boundKind i = some .motor then some 0
                 else (u.heads.get i).commanded
    wants := (t.heads.get i).wants }) ∧
  (if u.mode = .heating ∨ (∃ c ∈ u.ring.ownSend, c.kind = .call) ∨ u.ring.pendingCall.isSome = true then
    (∃ c, t.sends c ∧ c.kind = .call ∧ c.dest = 0 ∧ c.hop = 31 ∧ c.payload = u.alarmPayload) ∨
      t.ring.pendingCall = some u.alarmPayload
   else noticesOnly u t)

/-- 08 R130: `t` is `u` after a test of the alarm against F of the supply channel, which is made only out of
REPEATER and while the channel is FILLING or FRESH with an F. -/
def State.alarmTested (u t : State) : Prop :=
  let ch := u.channels.get u.profile.supply
  let tested := fun f : Int =>
    u.mode ≠ .repeater ∧ (ch.state = .filling ∨ ch.state = .fresh) ∧ ch.filtered = some f
  let raised := fun f : Int => tested f ∧ u.opening.alarm = false ∧ u.profile.overLimit < f
  let cleared := fun f : Int =>
    tested f ∧ u.opening.alarm = true ∧ f < u.profile.overLimit - u.profile.overHyst
  (∀ f, raised f → u.alarmRaised t f) ∧
  (∀ f, cleared f → t = { u with opening := { u.opening with alarm := false } }) ∧
  ((∀ f, ¬ raised f ∧ ¬ cleared f) → t = u)

/-- 06 R106, R103: in `s` loop `i` is in EXERCISE; in `t` it has left it by another event, and the next turn
of the list has fallen due: it waits while the alarm is set; otherwise the exercise is over, or the first loop
that is not passed over begins its open phase. -/
def State.turnTaken (s t : State) (i : Fin 16) (list : List (Fin 16)) : Prop :=
  let passed := fun j : Fin 16 => j = i ∨ (s.loops.get j).state ∈ [.held, .fault, .unbound]
  (s.opening.alarm = true →
    t.exercise = { running := true, list := list, current := none, turnDue := true }) ∧
  (s.opening.alarm = false → (∀ j ∈ list, passed j) →
    t.exercise = { running := false, list := [], current := none, turnDue := false }) ∧
  (s.opening.alarm = false → ∀ before j rest, list = before ++ j :: rest → (∀ k ∈ before, passed k) →
    ¬ passed j → ∃ n, t.exercise =
        { running := true, list := rest, turnDue := false
          current := some { loop := j, phase := .open, count := n } } ∧
      (t.loops.get j).state = .exercise ∧ (t.loops.get j).o = (s.loops.get j).cfg.oMax ∧
      (s.boundKind j = some .motor → n = some 0 ∧ (t.heads.get j).commanded = some 1000) ∧
      (s.boundKind j = some .thermal → ∃ m, t.modulator.recs.get j = some m ∧
        (m.state = .waiting ∧ j ∈ t.modulator.queue ∨ m.state = .granted ∨ m.state = .warming)))

/-! ## Invariants -/

/-- 01 R6, R9, R11, R12: the ring port's queues and streak keep their bounds, with at most one CALL in
the own-send queue, and none while a CALL value is pending; the deferred answer is no CALL. -/
abbrev RingPort.bounded (r : RingPort) : Prop :=
  r.insertion.length ≤ 6 ∧ r.ownSend.length ≤ 8 ∧ r.ownSend.countP Frame.isCall ≤ 1 ∧ r.streak ≤ 8 ∧
    (r.pendingCall.isSome = true → r.ownSend.countP Frame.isCall = 0) ∧
    ∀ f, r.deferred = some f → f.isCall = false

/-- 01 R8, R11: no choice and no entry is due: an IDLE out-port has nothing to send, and no claimant
waits for a place it could take. -/
abbrev State.settled (s : State) : Prop :=
  settleStep s.profile.manager (s.mode == .repeater) (s.ring, s.flags) = none

/-- The ring port between commands. -/
abbrev State.ringGood (s : State) : Prop := s.ring.bounded ∧ s.settled

/-- 09 R145: the pending sets: each head in the order once and only while it holds a want, and every
head that holds a want and has no command in flight is there. -/
abbrev State.pendingOk (s : State) : Prop :=
  s.string.order.Nodup ∧ (∀ h ∈ s.string.order, (s.heads.get h).wants.some? = true) ∧
    ∀ h, (s.heads.get h).wants.some? = true → s.inFlight h = false → h ∈ s.string.order

/-- Nothing is due between commands: neither at the ring port nor in the pending sets. Every command
leaves the part so (log entry 20). -/
abbrev State.atRest (s : State) : Prop := s.settled ∧ s.pendingOk

/-- 09 R146, R153, R154: one thing at a time on the string, and nothing while SUSPENDED. -/
abbrev State.stringOk (s : State) : Prop :=
  (s.string.transfer.isSome = true → s.string.broadcast = none) ∧
    (s.suspended = true → s.string.transfer = none ∧ s.string.broadcast = none)

/-- 01 R14; 02 R30, R32: REPEATER is the mode of station address 0 and of no other. -/
abbrev State.modeOk (s : State) : Prop := s.mode = .repeater ↔ s.ring.station = 0

/-- 02 R35: while STORING the store holds a copy and its image is invalid; no requester is kept in
READY or during a power-up recall, which is a RECALLING. -/
abbrev State.storeOk (s : State) : Prop :=
  (s.store.state = .storing → s.store.image.valid = false ∧ s.store.copy.isSome = true) ∧
    (s.store.state = .ready → s.store.requester = none) ∧
    (s.store.powerUp = true → s.store.state = .recalling ∧ s.store.requester = none)

/-- 08 R137, 02 R29: the request limits of an image's profile are in order. -/
def ImageData.limitsOk (d : ImageData) : Prop := d.profile.requestMin ≤ d.profile.requestMax

/-- 08 R137: T_req lies between the profile's request limits, which are in order, as they are in the
image and in a copy being written. -/
def State.requestOk (s : State) : Prop :=
  s.profile.requestMin ≤ s.profile.requestMax ∧
    s.profile.requestMin ≤ s.opening.tReq ∧ s.opening.tReq ≤ s.profile.requestMax ∧
    s.store.image.data.limitsOk ∧ ∀ d, s.store.copy = some d → d.limitsOk

/-- 08 R131: while the alarm is set every O is 0, and no thermal head waits or warms up. -/
abbrev State.alarmOk (s : State) : Prop :=
  s.opening.alarm = true →
    (∀ i, (s.loops.get i).o = 0) ∧ s.modulator.queue = [] ∧ s.warmUps = 0

/-- 06 R89, R103; 10 R159: a loop is UNBOUND exactly while it is not bound; it has a modulation record
exactly while it is bound and THERMAL; the loop in EXERCISE is the one the exercise names, while one
runs, and no turn waits meanwhile. No loop is bound before the power-up recall completes. -/
def State.loopsOk (s : State) : Prop :=
  (∀ i, (s.loops.get i).state = .unbound ↔ s.bound i = false) ∧
    (∀ i, (s.modulator.recs.get i).isSome = true ↔ s.boundKind i = some .thermal) ∧
    (∀ i, (s.loops.get i).state = .exercise ↔ ∃ t, s.exercise.current = some t ∧ t.loop = i) ∧
    (s.exercise.current.isSome = true → s.exercise.running = true ∧ s.exercise.turnDue = false) ∧
    (s.starting = true → ∀ i, s.bound i = false)

/-- 10 R159: the waiting queue holds each loop whose record is WAITING, once, and no other. -/
def State.queueOk (s : State) : Prop :=
  s.modulator.queue.Nodup ∧
    ∀ i, i ∈ s.modulator.queue ↔ ∃ m, s.modulator.recs.get i = some m ∧ m.state = .waiting

/-- 03 R39: the ranks of the LEARNED entries are distinct and lie below their number. -/
def State.ranksOk (s : State) : Prop :=
  (∀ i k, (s.binding.get i).rank = some k → k < learnedCount s.binding) ∧
    ∀ i j k, (s.binding.get i).rank = some k → (s.binding.get j).rank = some k → i = j

end Sys2Proof.Machine
end

