-- ==== Sys2Proof/Certificates/Slice0/Obligations.lean ====
section
/-! DEFINITION. The statements about the MB16 for the provers, by chapter of the spec. -/

open Sys2Proof Sys2Proof.Machine

/-! ## The block as a whole -/

/-- One step takes the command at the front of the queue, and the part idles on an empty queue (the
queue is the model's form of events from outside; idling is log entry 8). -/
def Obligations.StepTakesFront : Prop :=
  (∀ (s : State) (c : Instr) (rest : List Instr), s.pending = c :: rest →
    step s = exec c { s with pending := rest }) ∧
  ∀ s : State, s.pending = [] → step s = .next s

/-- Every command goes on in every state: none faults and none is refused; and no command touches the
queue of the commands that wait. The spec names no command that stops the part (log entry 11). -/
def Obligations.EveryCommandGoesOn : Prop :=
  ∀ (c : Instr) (s : State), ∃ t, exec c s = .next t ∧ t.pending = s.pending

/-- The invariants stated below hold right after reset. State.reset holds the values of log entries 1, 3
and 4 where the spec gives none. -/
def Obligations.InvariantsHoldAtReset : Prop :=
  State.reset.ringGood ∧ State.reset.pendingOk ∧ State.reset.stringOk ∧ State.reset.modeOk ∧
    State.reset.storeOk ∧ State.reset.requestOk ∧ State.reset.alarmOk ∧ State.reset.loopsOk ∧
    State.reset.queueOk ∧ State.reset.ranksOk

/-- 01, sections 1.4 and 1.5: the queues of the ring port keep their bounds, with at most one CALL of
the part's own waiting, and nothing that could move is left waiting, over every step. -/
def Obligations.RingKept : Prop :=
  ∀ s t : State, s.ringGood → step s = .next t → t.ringGood

/-- 09, sections 9.3 and 9.4: the pending sets hold at least every head that has a want and no command in
flight, no head without a want, and none twice, over every step. (The model's list keeps the place of a head
whose command is in flight; such a head is not pending, and re-enters as the latest.) -/
def Obligations.PendingSetsKept : Prop :=
  ∀ s t : State, s.pendingOk → step s = .next t → t.pendingOk

/-- 09, sections 9.4, 9.7 and 9.8; 02, sections 2.4 to 2.6: one thing at a time is on the string, and nothing
while the driver is SUSPENDED; REPEATER is the mode of station address 0 alone; the store keeps a copy
and an invalid image while STORING. Over every step. -/
def Obligations.StringModeStoreKept : Prop :=
  ∀ s t : State, step s = .next t →
    (s.stringOk → t.stringOk) ∧ (s.modeOk → t.modeOk) ∧ (s.storeOk → t.storeOk)

/-- 08, section 8.4: T_req stays within the request limits of the profile, which stay in order, over
every step. -/
def Obligations.RequestKept : Prop :=
  ∀ s t : State, s.requestOk → step s = .next t → t.requestOk

/-- 08, section 8.2: while the overtemperature alarm is set every O is 0, no thermal head waits for a
grant and none warms up, over every step. -/
def Obligations.AlarmKept : Prop :=
  ∀ s t : State, s.alarmOk → step s = .next t → t.alarmOk

/-- 06, sections 6.2 and 6.6; 10, section 10.1: a loop is UNBOUND exactly while its record names no room or
no kind, it has a modulation record exactly while it is bound and THERMAL, and the loop in EXERCISE is
the one the exercise names; and the waiting queue holds the loops whose records are WAITING, each once. Over
every step. -/
def Obligations.LoopsKept : Prop :=
  ∀ s t : State, s.loopsOk → step s = .next t → t.loopsOk ∧ (s.queueOk → t.queueOk)

/-- 03, section 3.1: the age ranks of the LEARNED entries stay a gapless sequence, over every step. -/
def Obligations.RanksKept : Prop :=
  ∀ s t : State, s.ranksOk → step s = .next t → t.ranksOk

/-! ## The zone ring (01) -/

/-- 01, sections 1.2 and 1.3: a frame that fails its check, or passes it and fails the form test, is
discarded: RING_CHECK is set with the reason in the detail's high byte, and nothing is delivered or forwarded.
One for the part that fails the content test of its kind is not delivered, RING_CHECK is set with reason 3 and
the origin, and a broadcast one travels on. (A frame of fewer than two bytes fails the check: log entry 15;
the last two bytes received are the check whatever the length field says: log entry 33; the flag is set
before the frame is forwarded: log entry 16.) -/
def Obligations.BadFrameDiscarded : Prop :=
  (∀ (s : State) (bs : List Byte) (reason : Nat), s.atRest →
    (reason = 1 ∧ ¬ passesCheck bs ∨ reason = 2 ∧ passesCheck bs ∧ failsForm bs) →
    ∃ t, exec (.frameArrival bs) s = .next t ∧ ringOnly s t ∧ noticesOnly s t ∧
      t.flagged .ringCheck 255 (256 * reason) ∧ flagsKept [.ringCheck] s t) ∧
  ∀ (s : State) (dest origin hop : Nat) (kind : FrameKind) (tag : Nat) (payload : List Byte),
    s.atRest → s.mode ≠ .repeater → s.ring.station ≠ 0 → origin ≠ s.ring.station →
    (dest = s.ring.station ∨ dest = 0) → headerOk dest origin hop tag payload →
    failsContent kind payload →
    ∃ t u, exec (.frameArrival (frameBytes dest origin hop kind tag payload)) s = .next u ∧
      t.relayed dest origin hop kind tag payload u ∧ ringOnly s t ∧ noticesOnly s t ∧
      t.flagged .ringCheck 255 (256 * 3 + origin) ∧ flagsKept [.ringCheck] s t

/-- 01 R3: a frame that passes its tests and carries the part's own station address as origin is
stripped, whatever its destination, hop and kind: nothing at all changes. -/
def Obligations.OwnFrameStripped : Prop :=
  ∀ (s : State) (dest hop : Nat) (kind : FrameKind) (tag : Nat) (payload : List Byte),
    s.pendingOk → s.modeOk → headerOk dest s.ring.station hop tag payload →
    exec (.frameArrival (frameBytes dest s.ring.station hop kind tag payload)) s = .next s

/-- 01, section 1.3; 02, section 2.1: a frame for another station, a broadcast of a kind that needs nothing
from the part, and in REPEATER every frame: hop 0 is dropped; any other is forwarded with the hop one lower and
a fresh check while the insertion queue has a place, and sets RING_OVERRUN while it has none. An ORD frame for
the part, or a broadcast one, does what the row of the order it carries does, and a broadcast one then travels
on in the same way. (Delivery before forwarding is log entry 16.) -/
def Obligations.FrameForwarded : Prop :=
  (∀ (s : State) (dest origin hop : Nat) (kind : FrameKind) (tag : Nat) (payload : List Byte),
    s.atRest → headerOk dest origin hop tag payload →
    (s.mode = .repeater ∨ origin ≠ s.ring.station ∧ dest ≠ s.ring.station ∧
      (dest ≠ 0 ∨ kind = .call ∨ kind = .ans ∨ kind = .ntc)) →
    let c := Instr.frameArrival (frameBytes dest origin hop kind tag payload)
    let f := frameOf dest origin (hop - 1) kind tag payload
    (hop = 0 → exec c s = .next s) ∧
    (1 ≤ hop → s.ring.insertion.length < 6 →
      exec c s = .next { s with ring := s.ring.passedOn f }) ∧
    (1 ≤ hop → 6 ≤ s.ring.insertion.length →
      ∃ t, exec c s = .next t ∧ ringOnly s t ∧ noticesOnly s t ∧
        t.flagged .ringOverrun 255 origin ∧ flagsKept [.ringOverrun] s t)) ∧
  ∀ (s : State) (dest origin hop tag : Nat) (code : Byte) (args : List Byte),
    s.atRest → s.mode ≠ .repeater → s.ring.station ≠ 0 → origin ≠ s.ring.station →
    (dest = s.ring.station ∨ dest = 0) → headerOk dest origin hop tag (code :: args) →
    let src : OrderFrom := { origin := origin, tag := tag, broadcast := dest == 0 }
    ∃ t u, exec (orderRow src code args) s = .next t ∧
      exec (.frameArrival (frameBytes dest origin hop .ord tag (code :: args))) s = .next u ∧
      t.relayed dest origin hop .ord tag (code :: args) u

/-- 01 R9 and sections 1.4 and 1.5; 11, section 11.4: at the completion of a sending the arbiter chooses by
the state of the two queues and of the forward streak. Where it sends an own frame, one claimant may take the
freed place at the tail of the own-send queue: the deferred answer, else the pending CALL value, else, while
fewer than six frames wait and out of REPEATER, the pending notice of the highest priority and then of the
lowest number. A CALL and a notice carry the next tag. -/
def Obligations.ArbiterChooses : Prop :=
  ∀ s : State, s.ringGood → s.ring.out.isSome = true →
    let own := s.ring.ownSend.drop 1
    let sent := fun g : Frame =>
      { s.ring with out := some g, ownSend := own, streak := 0 }
    let ownSent := fun (g : Frame) (t : State) =>
      (∀ f, s.ring.deferred = some f →
        t = { s with ring := { sent g with deferred := none, ownSend := own ++ [f] } }) ∧
      (∀ c, s.ring.deferred = none → s.ring.pendingCall = some c →
        t = { s with ring := { sent g with
          pendingCall := none, ownTag := s.nextTag, ownSend := own ++ [s.callFrame s.nextTag c] } }) ∧
      (s.ring.deferred = none → s.ring.pendingCall = none →
        (∀ n, own.length < 6 → s.mode ≠ .repeater → s.nextNotice n →
          t = { s with
            flags := t.flags
            ring := { sent g with ownTag := s.nextTag, ownSend := own ++ [s.noticeFrame n] } } ∧
          ∀ m, t.flags.get m =
            if m = n then { s.flags.get m with pending := false } else s.flags.get m) ∧
        (6 ≤ own.length ∨ s.mode = .repeater ∨ (∀ n, (s.flags.get n).pending = false) →
          t = { s with ring := sent g }))
    ∃ t, exec .sendComplete s = .next t ∧ ringOnly s t ∧ flagsKept [] s t ∧ t.ring.streak ≤ 8 ∧
      match s.ring.insertion, s.ring.ownSend with
      | [], [] => t = { s with ring := { s.ring with out := none } }
      | f :: ins, [] => t = { s with ring := { s.ring with insertion := ins, out := some f, streak := 0 } }
      | [], g :: _ => ownSent g t
      | f :: ins, g :: _ =>
        if s.ring.streak ≤ 7 then
          t = { s with ring := { s.ring with
            insertion := ins, out := some f, streak := s.ring.streak + 1 } }
        else ownSent g t

/-- 03, sections 3.1.1 and 3.2.2 to 3.2.4; 01, section 1.3: a room report, addressed to the part or
broadcast, from the address of a BOUND entry, plausible or not: the entry, and field by field the room it
names, take it in; FLOOR_LIMIT is set at the floor limit; a broadcast one then travels on. (Delivery before
forwarding is log entry 16.) -/
def Obligations.BoundReportTaken : Prop :=
  ∀ (s : State) (i : Fin 16) (r : Fin 12) (last : Option Int) (seen : Nat) (p : Report)
    (extra dest origin hop tag : Nat),
    s.atRest → s.mode ≠ .repeater → s.ring.station ≠ 0 → extra < 32 → p.inWords →
    (s.rooms.get r).state ≠ .unbound → (dest = s.ring.station ∨ dest = 0) →
    origin ≠ s.ring.station → headerOk dest origin hop tag (reportPayload extra p) →
    s.binding.get i = .bound origin r last seen →
    (∀ j, (s.binding.get j).address = some origin → j = i) →
    ∃ t u, exec (.frameArrival (frameBytes dest origin hop .rrp tag (reportPayload extra p))) s =
        .next u ∧
      t.relayed dest origin hop .rrp tag (reportPayload extra p) u ∧
      t = { s with binding := t.binding, rooms := t.rooms, ring := t.ring, flags := t.flags } ∧
      noticesOnly s t ∧
      (∀ j, t.binding.get j = if j = i then .bound origin r (some p.air) 0 else s.binding.get j) ∧
      (∀ q, q ≠ r → t.rooms.get q = s.rooms.get q) ∧
      (let old := s.rooms.get r
       let new := t.rooms.get r
       new.cfg = old.cfg ∧ new.integrator = old.integrator ∧ new.demand = old.demand ∧
       new.setpoint = some (clampTo 500 3000 p.setpoint) ∧ new.mode = some p.mode ∧
       new.batteryLow = p.batteryLow ∧ new.windowOpen = p.windowOpen ∧
       (if -1000 ≤ p.air ∧ p.air ≤ 4500 then
          new.air = some p.air ∧ new.implausible = false ∧ new.sinceReport = 0 ∧ new.state = .active
        else
          new.air = old.air ∧ new.implausible = true ∧ new.sinceReport = old.sinceReport ∧
            new.state = old.state) ∧
       (if old.windowMark then
          if p.windowOpen then
            new.windowMark = true ∧ new.windowRounds = old.windowRounds ∧ new.lockout = old.lockout
          else new.windowMark = false ∧ new.windowRounds = 0 ∧ new.lockout = false
        else
          new.windowMark = (p.windowOpen && !old.lockout) ∧
            new.lockout = (p.windowOpen && old.lockout) ∧
            new.windowRounds = if p.windowOpen && !old.lockout then 0 else old.windowRounds) ∧
       (match p.floor with
        | none => new.floor = old.floor ∧ new.limited = old.limited
        | some f =>
          new.floor = some f ∧
            new.limited = match old.cfg.floorLimit with
              | none => old.limited
              | some l => if l ≤ f then true else if f ≤ l - 100 then false else old.limited) ∧
       (∀ f l, p.floor = some f → old.cfg.floorLimit = some l → l ≤ f →
          t.flagged .floorLimit r.val f ∧ flagsKept [.floorLimit] s t) ∧
       ((¬ ∃ f l, p.floor = some f ∧ old.cfg.floorLimit = some l ∧ l ≤ f) →
          t.flags = s.flags ∧ t.ring = s.ring))

/-- 03, section 3.1.1; 01, section 1.3: a room report, addressed to the part or broadcast, from the address
of a LEARNED entry refreshes it and makes it the most recent; one from an unknown address is ignored with
learning off, and with learning on takes the lowest FREE entry, or else the least recent LEARNED one, or is
ignored when all entries are BOUND. A broadcast one then travels on. -/
def Obligations.UnboundReportTaken : Prop :=
  ∀ (s : State) (p : Report) (extra dest origin hop tag : Nat),
    s.atRest → s.mode ≠ .repeater → s.ring.station ≠ 0 → extra < 32 → p.inWords → s.ranksOk →
    (dest = s.ring.station ∨ dest = 0) → origin ≠ s.ring.station →
    headerOk dest origin hop tag (reportPayload extra p) →
    let becomes := fun t : State => ∃ u,
      exec (.frameArrival (frameBytes dest origin hop .rrp tag (reportPayload extra p))) s = .next u ∧
        t.relayed dest origin hop .rrp tag (reportPayload extra p) u
    let misses := ∀ j, (s.binding.get j).address ≠ some origin
    (∀ i k last seen, s.binding.get i = .learned origin k last seen →
      (∀ j, (s.binding.get j).address = some origin → j = i) →
      ∃ t, becomes t ∧ t = { s with binding := t.binding } ∧
        ∀ j, t.binding.get j =
          if j = i then .learned origin 0 p.air 0 else (s.binding.get j).mapRank (risenBelow k)) ∧
    (misses → s.profile.learn = false → becomes s) ∧
    (misses → s.profile.learn = true → (∀ j, (s.binding.get j).room.isSome = true) → becomes s) ∧
    (misses → s.profile.learn = true → ∀ i : Fin 16,
      (s.binding.get i = .free ∧ (∀ j, j < i → s.binding.get j ≠ .free) ∨
        (∀ j, s.binding.get j ≠ .free) ∧ (s.binding.get i).rank = some (learnedCount s.binding - 1)) →
      ∃ t, becomes t ∧ t = { s with binding := t.binding } ∧
        ∀ j, t.binding.get j =
          if j = i then .learned origin 0 p.air 0 else (s.binding.get j).mapRank (· + 1))

/-- 08, section 8.3; 07, section 7.2; 01, section 1.3: a source report, addressed to the part or broadcast,
from a station that the profile accepts is the source record from then on, with age 0, and one that is not RUN
marks the round; one from any other station is ignored. A broadcast one then travels on. -/
def Obligations.SourceReportTaken : Prop :=
  ∀ (s : State) (x y : Byte) (state : SourceState) (code : Nat) (low high : Int)
    (dest origin hop tag : Nat),
    s.atRest → s.mode ≠ .repeater → s.ring.station ≠ 0 → inWord low → inWord high →
    (code, state) ∈ [(0, SourceState.run), (1, .defrost), (2, .idle), (3, .locked)] →
    (dest = s.ring.station ∨ dest = 0) → origin ≠ s.ring.station →
    headerOk dest origin hop tag (sourcePayload x y code low high) →
    let becomes := fun t : State => ∃ u,
      exec (.frameArrival (frameBytes dest origin hop .srp tag (sourcePayload x y code low high))) s =
          .next u ∧
        t.relayed dest origin hop .srp tag (sourcePayload x y code low high) u
    (s.profile.source = 0 ∨ s.profile.source = origin →
      becomes { s with
        opening := { s.opening with source :=
          { state := state, minimum := some low, maximum := some high, age := 0
            lastOrigin := origin } }
        interrupted := s.interrupted || state != .run }) ∧
    (s.profile.source ≠ 0 → s.profile.source ≠ origin → becomes s)

/-! ## Orders (02) -/

/-- 02, section 2.1: the tests that turn an addressed order away unexecuted: REFUSED from a station that is
not the manager station, whatever the order is; UNKNOWN, with the code echoed, for a code outside 1 to 15;
BUSY, while the store is STORING or RECALLING, for the orders that touch what it keeps; REFUSED for an order
whose length is not the one its form gives. -/
def Obligations.OrdersTurnedAway : Prop :=
  ∀ (s : State) (src : OrderFrom), s.atRest →
    (∀ (c : Instr) (code : Nat), orderParts c = some (src, code) →
      (src.broadcast = false → s.mode ≠ .repeater → src.origin ≠ s.ring.station → src.origin ≠ 0 →
        s.ring.ownSend.length < 8 → s.profile.manager ≠ 0 → s.profile.manager ≠ src.origin →
        exec c s = .next (s.withAnswer src code 4 [])) ∧
      (code ∈ [2, 5, 6, 7, 8, 9, 10, 11, 12, 14] → s.accepts src → s.store.state ≠ .ready →
        exec c s = .next (s.withAnswer src code 2 [])) ∧
      (∀ n, (code, n) ∈ orderForms → (orderArgs c).length ≠ n → s.accepts src →
        (s.store.state = .ready ∨ code ∈ [1, 3, 4, 13, 15]) →
        exec c s = .next (s.withAnswer src code 4 []))) ∧
    ∀ (code : Byte) (args : List Byte), s.accepts src → (code.toNat = 0 ∨ 15 < code.toNat) →
      exec (.orderUnknown src code args) s = .next (s.withAnswer src code.toNat 3 [])

/-- 01, section 1.5: an addressed order that finds eight frames in the own-send queue is consumed
unexecuted and unanswered, and ORDER_DROPPED is set with its origin and tag. -/
def Obligations.OrderDropped : Prop :=
  ∀ (s : State) (c : Instr) (src : OrderFrom) (code : Nat),
    orderParts c = some (src, code) → s.atRest → src.broadcast = false → s.mode ≠ .repeater →
    src.origin ≠ s.ring.station → src.origin ≠ 0 → 8 ≤ s.ring.ownSend.length →
    ∃ t, exec c s = .next t ∧ ringOnly s t ∧ noticesOnly s t ∧
      t.flagged .orderDropped 255 (256 * src.origin + src.tag) ∧ flagsKept [.orderDropped] s t

/-- 02, section 2.1: a broadcast order is ignored with broadcast acceptance off, from a station that is not
the manager station, when it is not MODE, CLEAR, RESTART or STORE, when its length is not the one its form
gives, and when the addressed form would be answered BUSY. -/
def Obligations.BroadcastIgnored : Prop :=
  ∀ (s : State) (c : Instr) (src : OrderFrom) (code : Nat),
    orderParts c = some (src, code) → s.pendingOk → src.broadcast = true →
    (s.profile.broadcast = false ∨
      (s.profile.manager ≠ 0 ∧ s.profile.manager ≠ src.origin) ∨ code ∉ [4, 5, 6, 8] ∨
      (∃ n, (code, n) ∈ orderForms ∧ (orderArgs c).length ≠ n) ∨
      s.store.state ≠ .ready ∧ code ≠ 4) →
    exec c s = .next s

/-- 02 R23: READ answers with up to nine fields from the first one named, as they stand (State.shown lists
them with the codes of the field tables); UNKNOWN for a table, an index or a field that does not exist. -/
def Obligations.ReadAnswers : Prop :=
  ∀ (s : State) (src : OrderFrom) (table index first : Byte), s.atRest → s.accepts src →
    let entries := [1, 16, 12, 16, 8, 18, 16, 18].getD table.toNat 0
    let width := [24, 6, 23, 20, 11, 11, 9, 16].getD table.toNat 0
    let n := min 9 (width - first.toNat)
    exec (.read src [table, index, first]) s = .next
      (if entries ≤ index.toNat ∨ width ≤ first.toNat then s.withAnswer src 1 3 []
       else s.withAnswer src 1 0 ([table, index, first, byteOf n] ++
         (((s.shown table.toNat index.toNat).drop first.toNat).take n).flatMap bytes16))

/-- 02 R26: STATUS answers with ten bytes that describe the part as it stands, in every mode in which an
order is taken and every store state. -/
def Obligations.StatusAnswers : Prop :=
  ∀ (s : State) (src : OrderFrom), s.atRest → s.accepts src →
    ∃ flags : Word, (∀ n : Fin 16, flags.getLsbD n.val = (s.flags.get n).set) ∧
      let mode := match s.mode with
        | .start => 0#8 | .heating => 1#8 | .summer => 2#8 | .repeater => 3#8
      let store := match s.store.state with
        | .ready => 0#8 | .storing => 1#8 | .recalling => 2#8
      let full := if ∀ i, (s.binding.get i).room.isSome = true then 1#8 else 0#8
      let string := match s.string.timing, s.suspended with
        | .basic, false => 0#8 | .fast, false => 1#8 | .basic, true => 2#8 | .fast, true => 3#8
      exec (.status src []) s = .next (s.withAnswer src 3 0
        ([mode, if s.opening.alarm then 1#8 else 0#8, store,
          if s.store.image.valid then 1#8 else 0#8, flags.extractLsb' 8 8, flags.extractLsb' 0 8,
          full, string] ++ bytes16 s.opening.tReq))

/-- 02, section 2.3; 03, section 3.1.2: DISCOVER lists the LEARNED entries, the most recent first, at most
seven of them; FORGET makes every LEARNED entry FREE and leaves the others. -/
def Obligations.LearnedEntriesListedAndForgotten : Prop :=
  ∀ (s : State) (src : OrderFrom), s.atRest → s.accepts src →
    (s.ranksOk → ∃ l : List (Fin 16), l.length = learnedCount s.binding ∧
      (∀ (k : Nat) (i : Fin 16), l[k]? = some i ↔ (s.binding.get i).rank = some k) ∧
      exec (.discover src []) s = .next (s.withAnswer src 15 0
        (byteOf l.length :: (l.take 7).flatMap fun i =>
          byteOf ((s.binding.get i).address.getD 0) ::
            bytes16 ((s.binding.get i).lastAir.getD (-32768))))) ∧
    (s.store.state = .ready → ∃ t, exec (.forget src []) s = .next t ∧
      t = { s.withAnswer src 14 0 [] with binding := t.binding } ∧
      ∀ i, t.binding.get i = match s.binding.get i with
        | .learned _ _ _ _ => .free
        | e => e)

/-- 02, sections 2.1 and 2.2: a WRITE that cannot be made: UNKNOWN for a table, an index or a field that does not
exist, before REFUSED for a read-only table, a live field, a field named twice or a selector code
outside its list (fieldRows gives the fields with their ranges); and REFUSED for a length that the form does
not give. -/
def Obligations.WriteTurnedAway : Prop :=
  ∀ (s : State) (src : OrderFrom) (table index : Nat) (ps : Pairs),
    s.atRest → s.accepts src → s.store.state = .ready → table < 256 → index < 256 → ps.length ≤ 7 →
    (∀ p ∈ ps, p.1 < 256 ∧ inWord p.2) →
    let entries := [1, 16, 12, 16, 8, 18, 16, 18].getD table 0
    let width := [24, 6, 23, 20, 11, 11, 9, 16].getD table 0
    let settable := [24, 2, 7, 9, 9, 2, 0, 0].getD table 0
    let c := writeTo table src (writeBytes index ps)
    (entries ≤ index ∨ (∃ p ∈ ps, width ≤ p.1) → exec c s = .next (s.withAnswer src 2 3 [])) ∧
    (index < entries → (∀ p ∈ ps, p.1 < width) →
      (6 ≤ table ∨ (∃ p ∈ ps, settable ≤ p.1) ∨ ¬ (ps.map Prod.fst).Nodup ∨
        ∃ p ∈ ps, (fieldRow table p.1).any (FieldRow.admits · p.2) = false) →
      exec c s = .next (s.withAnswer src 2 4 [])) ∧
    ∀ args : List Byte, (args = [] ∨ 22 < args.length ∨ args.length % 3 ≠ 1) →
      exec (writeTo table src args) s = .next (s.withAnswer src 2 4 [])

/-- 02, sections 2.2 and 2.3; 04, section 4.1; 07, sections 7.2, 7.3 and 7.7; 08, sections 8.2 and 8.4; 10,
section 10.9; 11, section 11.4: a WRITE to the profile is REFUSED when it would put the request limits out of
order. Otherwise it takes effect: the channels whose references it makes or takes start or stop; a changed
overtemperature limit or hysteresis tests the alarm; B is lifted to a raised B_min, a changed supply channel
spoils every bound loop, T_req is held within changed request limits, a changed round length restarts the
balancing round, a changed period the slot count, and a masked-out notice is no longer pending; a raised
inrush limit lets grants be made. (That the alarm is tested before T_req is clamped, and loops are spoiled
before a restart clears the marks, is log entry 35; that a held drive want keeps a granted record from WARMING
is log entry 47.) -/
def Obligations.ProfileWritten : Prop :=
  ∀ (s : State) (src : OrderFrom) (ps v : Pairs) (clamped : Bool),
    s.atRest → s.accepts src → s.store.state = .ready → s.loopsOk → s.queueOk → writable 0 ps v clamped →
    let old := s.profile
    let new := Profile.ofFields (overlay old.fields v)
    let c := Instr.writeProfile src (writeBytes 0 ps)
    let limits := new.overLimit ≠ old.overLimit ∨ new.overHyst ≠ old.overHyst
    (new.requestMax < new.requestMin → exec c s = .next (s.withAnswer src 2 4 [])) ∧
    (new.requestMin ≤ new.requestMax → ∃ u a b t : State, exec c s = .next t ∧
      u = { s.withAnswer src 2 (writeAnswer clamped) [0#8, 0#8] with
        profile := new, channels := u.channels
        converter := s.converter.map fun k => { k with
          discard := k.discard || decide (0 < s.references k.channel ∧ u.references k.channel = 0) }
        modulator := { s.modulator with
          slotCount := if new.period = old.period then s.modulator.slotCount else 0 } } ∧
      u.shows s 0 0 v ∧
      (∀ ch, u.channels.get ch =
        if s.references ch = 0 ∧ 0 < u.references ch then .cleared (s.channels.get ch).cfg .filling
        else if 0 < s.references ch ∧ u.references ch = 0 then .cleared (s.channels.get ch).cfg .unused
        else s.channels.get ch) ∧
      (limits → u.alarmTested a) ∧ (¬ limits → a = u) ∧
      b = { a with
        loops := b.loops, flags := b.flags
        roundPos := if new.roundLength = old.roundLength then s.roundPos else 0
        opening := { a.opening with
          tReq := if new.requestMin = old.requestMin ∧ new.requestMax = old.requestMax then s.opening.tReq
                  else clampTo new.requestMin new.requestMax s.opening.tReq } } ∧
      (∀ i,
        let l := a.loops.get i
        let lifts := l.cfg.bound = true ∧ old.bMin < new.bMin ∧ ∃ x, l.b = some x ∧ x < new.bMin
        let marks := l.cfg.bound = true ∧ new.supply ≠ old.supply
        (lifts → (b.loops.get i).b = some new.bMin) ∧ (¬ lifts → (b.loops.get i).b = l.b) ∧
        (new.roundLength = old.roundLength →
          (lifts ∨ marks → b.loops.get i = { l with b := (b.loops.get i).b, spoiled := true }) ∧
          (¬ lifts → ¬ marks → b.loops.get i = l)) ∧
        (new.roundLength ≠ old.roundLength →
          b.loops.get i = { l with b := (b.loops.get i).b, spreadSum := 0, spreadCount := 0
                                   spoiled := false })) ∧
      (∀ n : Fin 16,
        (old.noticeMask.getLsbD n.val = true → new.noticeMask.getLsbD n.val = false → n ≠ 0 →
          b.flags.get n = { a.flags.get n with pending := false }) ∧
        (old.noticeMask.getLsbD n.val = false ∨ new.noticeMask.getLsbD n.val = true ∨ n = 0 →
          b.flags.get n = a.flags.get n)) ∧
      (old.inrush < new.inrush → b.grantsFrom t new.inrush) ∧
      (new.inrush ≤ old.inrush →
        t = { b with string := { b.string with order := t.string.order } } ∧ (¬ limits → t = b)))

/-- 03, section 3.2.1: a WRITE to a room record always takes effect once its pairs can be written; an
absent floor limit clears the LIMITED mark, and no other live field and no other room is touched. -/
def Obligations.RoomWritten : Prop :=
  ∀ (s : State) (src : OrderFrom) (r : Fin 12) (ps v : Pairs) (clamped : Bool),
    s.atRest → s.accepts src → s.store.state = .ready → writable 2 ps v clamped →
    let old := s.rooms.get r
    let new := RoomCfg.ofFields (overlay old.cfg.fields v)
    ∃ t, exec (.writeRoom src (writeBytes r.val ps)) s = .next t ∧
      t = { s.withAnswer src 2 (writeAnswer clamped) [2#8, byteOf r.val] with rooms := t.rooms } ∧
      (∀ q, q ≠ r → t.rooms.get q = s.rooms.get q) ∧ t.shows s 2 r.val v ∧
      t.rooms.get r = { old with cfg := new
                                 limited := if new.floorLimit = none then false else old.limited }

/-- 03, section 3.1.2: a WRITE that would leave a room without an address, an address bound twice or a room
bound twice is REFUSED; any other WRITE with pairs makes the entry BOUND, with what was last heard from
its address, or FREE. The ranks close up in their order, and the rooms gained and lost are handed over
cleared. -/
def Obligations.BindingWritten : Prop :=
  ∀ (s : State) (src : OrderFrom) (i : Fin 16) (ps v : Pairs) (clamped : Bool),
    s.atRest → s.accepts src → s.store.state = .ready → s.ranksOk → writable 1 ps v clamped →
    (∀ j k a, (s.binding.get j).address = some a → (s.binding.get k).address = some a → j = k) →
    let old := s.binding.get i
    let a := (overlay old.shown v).getD 0 (-32768)
    let r := (overlay old.shown v).getD 1 (-32768)
    let address : Option Nat := if a = -32768 then none else some a.toNat
    let room : Option (Fin 12) := if r = -32768 then none else some (Fin.ofNat 12 r.toNat)
    let c := Instr.writeBinding src (writeBytes i.val ps)
    let refused := ps ≠ [] ∧ ∃ r, room = some r ∧
      (address = none ∨ ∃ j, j ≠ i ∧
        ((s.binding.get j).boundAddress = address ∨ (s.binding.get j).room = some r))
    (refused → exec c s = .next (s.withAnswer src 2 4 [])) ∧
    (ps = [] → exec c s = .next (s.withAnswer src 2 0 [1#8, byteOf i.val])) ∧
    (ps ≠ [] → ¬ refused → ∃ t, exec c s = .next t ∧
      t = { s.withAnswer src 2 (writeAnswer clamped) [1#8, byteOf i.val] with
        binding := t.binding, rooms := t.rooms } ∧
      (room = none → t.binding.get i = .free) ∧
      (∀ r a, room = some r → address = some a →
        (∀ j, (s.binding.get j).learnedAddress = some a ∨ (j = i ∧ old.boundAddress = some a) →
          t.binding.get i = .bound a r (s.binding.get j).lastAir (s.binding.get j).seen) ∧
        ((∀ j, (s.binding.get j).address ≠ some a) → t.binding.get i = .bound a r none 0)) ∧
      (∃ rank : Nat → Nat, (∀ m n, m ≤ n → rank m ≤ rank n) ∧ ∀ j, j ≠ i →
        ((s.binding.get j).learnedAddress.isSome = true → (s.binding.get j).learnedAddress = address →
          room.isSome = true → t.binding.get j = .free) ∧
        ((s.binding.get j).learnedAddress = none ∨ (s.binding.get j).learnedAddress ≠ address ∨
          room = none → t.binding.get j = (s.binding.get j).mapRank rank)) ∧
      t.ranksOk ∧
      ∀ q, t.rooms.get q =
        match roomAddress s.binding q, roomAddress t.binding q with
        | some a, some b => if a = b then s.rooms.get q else .cleared (s.rooms.get q).cfg .waiting
        | none, some _ => .cleared (s.rooms.get q).cfg .waiting
        | some _, none => .cleared (s.rooms.get q).cfg .unbound
        | none, none => s.rooms.get q)

/-- 06, sections 6.1, 6.2 and 6.6; 07, sections 7.3 and 7.6; 10, section 10.1: a WRITE to a loop record is
REFUSED when O_min would exceed O_max or a room would get a fifth loop. One that gives an unbound loop a room
and a kind makes it CLOSED with O 0 and its seed as B; its head is to be probed and is handed position 0, and
no other loop or head is touched. One that takes the room or the kind away makes the loop UNBOUND. One to a loop
that stays bound brings O within changed limits and spoils the loop when its room, its return channel or O
changes; a changed kind makes it CLOSED with O 0, outside a FAULT with reason HEAD, has the head driven shut
under the old kind and probed, and makes or drops its modulation record. The head of a loop that stops being
THERMAL is closed by that close request and not by the modulator: no drive want is made for it (after a change
of kind, where its known kind is not the new one). A loop that so leaves EXERCISE has the next turn taken. (What
becomes of the head of a loop unbound, its travel ended and for an UNREACHABLE head its
commanded value and wants gone, is log entry 29; that a close request replaces a waiting one and that a travel
outlasts a change of kind is log entry 39; that a changed kind sets O to 0 before changed limits act on it, and
so does not spoil, is log entry 41.) -/
def Obligations.LoopBoundByWrite : Prop :=
  ∀ (s : State) (src : OrderFrom) (i : Fin 16) (ps v : Pairs) (clamped : Bool),
    s.atRest → s.accepts src → s.store.state = .ready → writable 3 ps v clamped →
    let l := s.loops.get i
    let old := l.cfg
    let h := s.heads.get i
    let new := LoopCfg.ofFields (overlay old.fields v)
    let c := Instr.writeLoop src (writeBytes i.val ps)
    let refused := new.oMax < new.oMin ∨
      (new.room ≠ old.room ∧ ∃ r, new.room = some r ∧ 4 ≤ s.loopCount r)
    let counted := fun t : State => ∀ ch, t.channels.get ch =
      if s.references ch = 0 ∧ 0 < t.references ch then .cleared (s.channels.get ch).cfg .filling
      else if 0 < s.references ch ∧ t.references ch = 0 then .cleared (s.channels.get ch).cfg .unused
      else s.channels.get ch
    let newRec := fun t : State => ∃ m, t.modulator.recs.get i = some m ∧ m.state = .idle ∧
      m.onSlots = 0 ∧ m.warmCount = 0 ∧ m.starved = false
    (refused → exec c s = .next (s.withAnswer src 2 4 [])) ∧
    (¬ refused → ∃ t, exec c s = .next t ∧ t.shows s 3 i.val v) ∧
    (¬ refused → old.bound = false → new.bound = true → ∃ t, exec c s = .next t ∧
      t = { s.withAnswer src 2 (writeAnswer clamped) [3#8, byteOf i.val] with
        loops := t.loops, heads := t.heads, channels := t.channels, converter := t.converter
        string := { s.string with order := t.string.order }
        modulator := { s.modulator with recs := t.modulator.recs } } ∧
      (∃ b, t.loops.get i = .cleared new .closed (some b) ∧
        (∀ f, new.seed = some f → b = clampTo s.profile.bMin 1000 f) ∧
        (new.seed = none → ∃ n : Nat,
          (∀ j, t.bound j = true → (t.loops.get j).cfg.size ≤ n) ∧
          (n = 0 ∨ ∃ j, t.bound j = true ∧ (t.loops.get j).cfg.size = n) ∧
          b = clampTo s.profile.bMin 1000 (divRound (1000 * new.size) n))) ∧
      (∀ j, j ≠ i → t.loops.get j = s.loops.get j ∧ t.heads.get j = s.heads.get j ∧
        t.modulator.recs.get j = s.modulator.recs.get j) ∧
      (t.heads.get i).commanded = some 0 ∧ (t.heads.get i).wants.probe = true ∧
      (new.kind = some .thermal → newRec t) ∧
      (new.kind = some .motor → t.modulator.recs.get i = s.modulator.recs.get i) ∧ counted t) ∧
    (¬ refused → s.loopsOk → old.bound = true → new.bound = false →
      ∃ t, exec c s = .next t ∧ t.loops.get i = .cleared new .unbound none ∧
        t.modulator.recs.get i = none ∧ i ∉ t.modulator.queue ∧
        t.heads.get i = (if h.unreachable = true then
            { h with moving := none, commanded := none, wants := .nothing }
          else { h with moving := none, commanded := some 0, wants := { h.wants with close := old.kind } }) ∧
        (l.state = .exercise → s.turnTaken t i (s.exercise.list.filter (· != i)))) ∧
    (¬ refused → s.loopsOk → old.bound = true → new.bound = true → new.kind = old.kind → ∃ t, exec c s = .next t ∧
      let o := if new.oMin = old.oMin ∧ new.oMax = old.oMax ∨ l.o = 0 then l.o
               else clampTo new.oMin new.oMax l.o
      let spoils := new.room ≠ old.room ∨ new.channel ≠ old.channel ∨ o ≠ l.o
      t.loops.get i = { l with
        cfg := new, o := o, spoiled := l.spoiled || decide spoils
        settled := if o = l.o then l.settled else (t.loops.get i).settled } ∧
      (∀ j, j ≠ i → t.loops.get j = s.loops.get j) ∧ counted t ∧
      (o = l.o → t.heads.get i = h) ∧
      (o ≠ l.o → new.kind = some .motor → l.state ∈ [.closed, .opening, .open, .held] →
        (t.heads.get i).commanded = some o)) ∧
    (¬ refused → s.loopsOk → old.bound = true → new.bound = true → new.kind ≠ old.kind →
      i ∉ s.exercise.list → (l.state = .fault → l.reason = some .head → l.o = 0) →
      ∃ t, exec c s = .next t ∧
        let spoiled := l.spoiled || decide (new.room ≠ old.room ∨ new.channel ≠ old.channel)
        (l.state = .fault ∧ l.reason = some .head →
          t.loops.get i = { l with cfg := new, spoiled := spoiled, settled := (t.loops.get i).settled } ∧
          (t.heads.get i).wants.close = h.wants.close) ∧
        (¬ (l.state = .fault ∧ l.reason = some .head) →
          t.loops.get i = { l with
            cfg := new, spoiled := spoiled, state := .closed, o := 0, hold := none, reason := none
            settle := 0, openRef := none, settled := false } ∧
          (h.unreachable = false → (t.heads.get i).wants.close = old.kind)) ∧
        (t.heads.get i).commanded = some 0 ∧ (t.heads.get i).wants.probe = true ∧
        (t.heads.get i).moving = h.moving ∧ i ∉ t.modulator.queue ∧
        (∀ k, h.kind = some k → new.kind ≠ some k → (t.heads.get i).wants.drive = h.wants.drive) ∧
        (new.kind = some .thermal → newRec t) ∧
        (new.kind = some .motor → t.modulator.recs.get i = none) ∧
        (l.state = .exercise → s.turnTaken t i s.exercise.list) ∧ counted t)

/-- 11, section 11.1: a WRITE to a window entry is REFUSED when its low bound would exceed its high bound.
Otherwise it arms the window, or disarms it when its loop is none, with count 0; a WRITE with no pairs
does so too. -/
def Obligations.WindowWritten : Prop :=
  ∀ (s : State) (src : OrderFrom) (w : Fin 8) (ps v : Pairs) (clamped : Bool),
    s.atRest → s.accepts src → s.store.state = .ready → writable 4 ps v clamped →
    let new := WindowCfg.ofFields (overlay (s.windows.get w).cfg.fields v)
    let c := Instr.writeWindow src (writeBytes w.val ps)
    (new.high < new.low → exec c s = .next (s.withAnswer src 2 4 [])) ∧
    (new.low ≤ new.high → ∃ t, exec c s = .next t ∧
      t = { s.withAnswer src 2 (writeAnswer clamped) [4#8, byteOf w.val] with windows := t.windows } ∧
      (∀ x, x ≠ w → t.windows.get x = s.windows.get x) ∧ t.shows s 4 w.val v ∧
      t.windows.get w = { cfg := new, count := 0
                          state := if new.loop = none then .disarmed else .armed })

/-- 04, section 4.5; 07, section 7.3; 08, section 8.2: a WRITE to a channel: a changed input select restarts a
referenced channel and discards its conversion; a changed trim shifts its history, computes F afresh and
spoils the loops it serves, which are all the bound ones for the supply channel, whose new F is tested for the
alarm. -/
def Obligations.ChannelWritten : Prop :=
  ∀ (s : State) (src : OrderFrom) (ch : Fin 18) (ps v : Pairs) (clamped : Bool),
    s.atRest → s.accepts src → s.store.state = .ready → writable 5 ps v clamped →
    let old := s.channels.get ch
    let new := ChannelCfg.ofFields (overlay old.cfg.fields v)
    let tests := s.profile.supply = ch ∧ new.trim ≠ old.cfg.trim
    ∃ u t, exec (.writeChannel src (writeBytes ch.val ps)) s = .next t ∧
      (tests → u.alarmTested t) ∧ (¬ tests → t = u) ∧
      u = { s.withAnswer src 2 (writeAnswer clamped) [5#8, byteOf ch.val] with
        channels := u.channels, loops := u.loops, converter := u.converter } ∧
      (∀ x, x ≠ ch → u.channels.get x = s.channels.get x) ∧ u.shows s 5 ch.val v ∧
      (new.input ≠ old.cfg.input → old.state ≠ .unused →
        u.channels.get ch = .cleared new .filling) ∧
      (new.input = old.cfg.input ∨ old.state = .unused → new.trim = old.cfg.trim →
        u.channels.get ch = { old with cfg := new }) ∧
      (new.input = old.cfg.input ∨ old.state = .unused → new.trim ≠ old.cfg.trim →
        let history := old.history.map (· + (new.trim - old.cfg.trim))
        u.channels.get ch = { old with cfg := new, history := history
                                       filtered := filteredOf history }) ∧
      (∀ i,
        let l := s.loops.get i
        u.loops.get i =
          if l.cfg.bound = true ∧ (l.cfg.channel = ch ∨ s.profile.supply = ch) ∧ new.trim ≠ old.cfg.trim
          then { l with spoiled := true } else l) ∧
      u.converter = match s.converter with
        | none => none
        | some k => some { k with discard := k.discard || (k.channel == ch && new.input != old.cfg.input) }

/-- 11, sections 11.2 and 11.4: CLEAR, addressed or broadcast, clears the flags its two bytes name and takes
them from the pending-notice set, their details kept; naming WINDOW_TRIP re-arms every TRIPPED window with
count 0. An event sets its flag and replaces the detail; a flag that was clear and is enabled by the notice
mask, or is flag 0, is noticed: at once while fewer than six frames wait, out of REPEATER, and as a member of
the pending-notice set otherwise. ALERT is driven exactly while a flag of the alert route mask is set. -/
def Obligations.FlagsCleared : Prop :=
  (∀ (s : State) (src : OrderFrom) (hi lo : Byte), s.atRest →
    (s.accepts src ∨ s.acceptsBroadcast src) →
    let names : Word := hi ++ lo
    ∃ t, exec (.clear src [hi, lo]) s = .next t ∧
      t = { s.taken src 4 0 [] with flags := t.flags, windows := t.windows } ∧
      (∀ n : Fin 16, t.flags.get n =
        if names.getLsbD n.val then { s.flags.get n with set := false, pending := false }
        else s.flags.get n) ∧
      ∀ w, t.windows.get w =
        if names.getLsbD 3 = true ∧ (s.windows.get w).state = .tripped then
          { s.windows.get w with state := .armed, count := 0 }
        else s.windows.get w) ∧
  (∀ (s : State) (f : Flag) (index : Nat) (value : Int), s.settled →
    let n := f.number
    let old := s.flags.get n
    let t := s.raiseFlag f index value
    let raised : FlagRec := { set := true, index := index, value := value, pending := old.pending }
    let joins := old.set = false ∧ (s.profile.noticeMask.getLsbD n.val = true ∨ n = 0)
    let room := s.ring.ownSend.length < 6 ∧ s.mode ≠ .repeater
    let marked : State := { s with flags := s.flags.set n raised }
    t = { s with ring := t.ring, flags := t.flags } ∧
    (∀ m, t.flags.get m = if m = n then { raised with pending := (t.flags.get n).pending }
      else s.flags.get m) ∧
    (joins → room → (t.flags.get n).pending = false ∧
      t.ring = { s.ring.originated (marked.noticeFrame n) with ownTag := s.nextTag }) ∧
    (joins → ¬ room → (t.flags.get n).pending = true ∧ t.ring = s.ring) ∧
    (¬ joins → (t.flags.get n).pending = old.pending ∧ t.ring = s.ring)) ∧
  ∀ s : State, s.alert = true ↔
    ∃ n : Fin 16, (s.flags.get n).set = true ∧ s.profile.alertMask.getLsbD n.val = true

/-- 02, section 2.4: MODE, addressed or broadcast: refused in START; naming the current mode it changes
nothing; otherwise the mode changes, the balancing round restarts, entering SUMMER clears the exercise
interval count, and leaving SUMMER ends an exercise (here one in which no loop is in EXERCISE). -/
def Obligations.ModeOrdered : Prop :=
  ∀ (s : State) (src : OrderFrom) (arg : Byte), s.atRest → s.store.state = .ready →
    (s.accepts src ∨ s.acceptsBroadcast src) → s.exercise.current = none →
    let cleared := s.loops.map fun l => { l with spreadSum := 0, spreadCount := 0, spoiled := false }
    (s.mode = .start ∨ arg ≠ 1#8 ∧ arg ≠ 2#8 → exec (.mode src [arg]) s = .next (s.taken src 5 4 [])) ∧
    (s.mode = .heating ∧ arg = 1#8 ∨ s.mode = .summer ∧ arg = 2#8 →
      exec (.mode src [arg]) s = .next (s.taken src 5 0 [])) ∧
    (s.mode = .heating → arg = 2#8 →
      exec (.mode src [arg]) s = .next { s.taken src 5 0 [] with
        mode := .summer, interval := 0, roundPos := 0, loops := cleared }) ∧
    (s.mode = .summer → arg = 1#8 →
      exec (.mode src [arg]) s = .next { s.taken src 5 0 [] with
        mode := .heating, roundPos := 0, loops := cleared
        exercise := { running := false, list := [], current := none, turnDue := false } })

/-- 02, section 2.6: STORE, addressed or broadcast, and RECALL are taken with no answer yet. STORE keeps a
copy of all that the image holds and marks the image invalid; nothing else changes. -/
def Obligations.StoreOrdersTaken : Prop :=
  ∀ (s : State) (src : OrderFrom), s.atRest → s.store.state = .ready →
    ((s.accepts src ∨ s.acceptsBroadcast src) → ∃ d,
      exec (.store src []) s = .next { s with store :=
        { state := .storing, powerUp := false, copy := some d
          requester := if src.broadcast then none else some (src.origin, src.tag)
          image := { s.store.image with complete := false } } } ∧
      d.profile = s.profile ∧ (∀ r, d.rooms.get r = (s.rooms.get r).cfg) ∧
      (∀ i, d.loops.get i = (s.loops.get i).cfg) ∧ (∀ w, d.windows.get w = (s.windows.get w).cfg) ∧
      (∀ c, d.channels.get c = (s.channels.get c).cfg) ∧
      (∀ w, d.written.get w = (s.windows.get w).cfg.loop.isSome) ∧
      (∀ i a r, d.bound.get i = some (a, r) ↔ ∃ t n, s.binding.get i = .bound a r t n) ∧
      ∀ i, d.factors.get i = if (s.loops.get i).cfg.bound then (s.loops.get i).b else none) ∧
    (s.accepts src → exec (.recall src []) s = .next { s with store := { s.store with
      state := .recalling, powerUp := false, requester := some (src.origin, src.tag) } })

/-- 02 R35, R22; 01, section 1.5: a STORE completes. Verified, the image is valid and holds the copy; not
verified, it stays invalid and STORE_FAILED is set. The requester is answered, at once when the own-send
queue has a place; a broadcast STORE has no requester and no answer. (That the notice of STORE_FAILED enters
before the answer is log entry 34.) -/
def Obligations.StoreCompletes : Prop :=
  ∀ (s : State) (d : ImageData), s.atRest → s.storeOk → s.store.state = .storing →
    s.store.copy = some d → s.ring.deferred = none →
    let ready := fun t : State =>
      { s.store with state := .ready, requester := none, copy := none, image := t.store.image }
    (∃ t, exec (.storeComplete true) s = .next t ∧ t.store.image.valid = true ∧
      t.store.image.data = d ∧
      (s.store.requester = none → t = { s with store := ready t }) ∧
      ∀ origin tag, s.store.requester = some (origin, tag) →
        let answer := s.ansFor { origin := origin, tag := tag, broadcast := false } 6 0 []
        t = { s with
          store := ready t
          ring := if s.ring.ownSend.length < 8 then s.ring.originated answer
                  else { s.ring with deferred := some answer } }) ∧
    ∃ t, exec (.storeComplete false) s = .next t ∧ t.store.image.valid = false ∧
      t = { s with ring := t.ring, flags := t.flags, store := ready t } ∧
      t.store.image = s.store.image ∧ t.flagged .storeFailed 255 0 ∧ flagsKept [.storeFailed] s t ∧
      (s.store.requester = none → noticesOnly s t) ∧
      ∀ origin tag, s.store.requester = some (origin, tag) →
        let answer := s.ansFor { origin := origin, tag := tag, broadcast := false } 6 5 []
        t.sends answer ∨ t.ring.deferred = some answer

/-- 02 R36: a RECALL completes. From a valid image the configuration of every table, the BOUND entries and
the stored B of every bound loop become the image's; from an invalid one nothing changes, and the answer
is FAILED. -/
def Obligations.RecallCompletes : Prop :=
  ∀ (s : State) (origin tag : Nat), s.atRest → s.storeOk → s.loopsOk → s.store.state = .recalling →
    s.store.powerUp = false → s.store.requester = some (origin, tag) → s.ring.deferred = none →
    let d := s.store.image.data
    let src : OrderFrom := { origin := origin, tag := tag, broadcast := false }
    let answer := fun code => s.ansFor src 7 code []
    (s.store.image.valid = false →
      exec .recallComplete s = .next { s with
        store := { s.store with state := .ready, requester := none, copy := none }
        ring := if s.ring.ownSend.length < 8 then s.ring.originated (answer 5)
                else { s.ring with deferred := some (answer 5) } }) ∧
    (s.store.image.valid = true → (∀ i b, d.factors.get i = some b → d.profile.bMin ≤ b) →
      ∃ t, exec .recallComplete s = .next t ∧ t.profile = d.profile ∧
        (∀ r, (t.rooms.get r).cfg = d.rooms.get r) ∧ (∀ i, (t.loops.get i).cfg = d.loops.get i) ∧
        (∀ w, (t.windows.get w).cfg = d.windows.get w) ∧
        (∀ c, (t.channels.get c).cfg = d.channels.get c) ∧
        (∀ i, (d.loops.get i).bound = true → (t.loops.get i).b = d.factors.get i) ∧
        (∀ i, match d.bound.get i with
          | some p => (t.binding.get i).boundAddress = some p.1 ∧ (t.binding.get i).room = some p.2
          | none => (t.binding.get i).room = none) ∧
        t.mode = s.mode ∧ t.store = { s.store with state := .ready, requester := none, copy := none } ∧
        (t.sends (answer 0) ∨ t.ring.deferred = some (answer 0)))

/-- 02 R34 and what each chapter gives for a RESTART: the answer is on its way first; the tables, the store,
the station address, the queues and the slot count are kept; mode, rooms, channels, loops, heads, alarm,
request, windows and flags start anew. The model's choices in it: log entries 3 (origin of the source
record), 21 (commanded value of an unbound loop's head) and 23 (D_max). -/
def Obligations.RestartTaken : Prop :=
  ∀ (s : State) (src : OrderFrom), s.atRest → s.store.state = .ready →
    (s.accepts src ∨ s.acceptsBroadcast src) →
    let a := s.taken src 8 0 []
    ∃ t, exec (.restart src []) s = .next t ∧
      t = { a with
        ring := { a.ring with pendingCall := none }
        mode := .start, startRounds := 0, roundPos := 0, interrupted := true
        rooms := t.rooms, channels := t.channels, converter := t.converter, loops := t.loops
        exercise := { running := false, list := [], current := none, turnDue := false }
        opening := t.opening, heads := t.heads, string := t.string
        modulator := { s.modulator with recs := t.modulator.recs, queue := [] }
        windows := t.windows, flags := t.flags } ∧
      (∀ r, t.rooms.get r = .cleared (s.rooms.get r).cfg
        (if (roomAddress s.binding r).isSome then .waiting else .unbound)) ∧
      (∀ c, t.channels.get c = .cleared (s.channels.get c).cfg
        (if 0 < s.references c then .filling else .unused)) ∧
      (∀ i, t.loops.get i = .cleared (s.loops.get i).cfg (if s.bound i then .closed else .unbound)
        (if s.bound i then (s.loops.get i).b else none)) ∧
      (∀ i, t.heads.get i =
        let h := s.heads.get i
        { h with
          commanded := if s.bound i then some 0 else none
          acked := none, misses := 0, unreachable := false, moving := none, reswitched := false
          confirming := false
          wants := { Wants.nothing with
            probe := s.bound i
            drive := s.bound i && (h.kind == none || h.kind == s.boundKind i) } }) ∧
      (∀ i, match s.boundKind i, t.modulator.recs.get i with
        | some .thermal, some m => m.state = .idle ∧ m.onSlots = 0 ∧ m.warmCount = 0 ∧ m.starved = false
        | some .thermal, none => False
        | _, m => m = none) ∧
      (∀ w, t.windows.get w = { s.windows.get w with
        count := 0, state := if (s.windows.get w).cfg.loop.isSome then .armed else .disarmed }) ∧
      (∀ n, t.flags.get n = { s.flags.get n with set := false, pending := false }) ∧
      t.opening = { alarm := false, up := 0, down := 0, tReq := s.profile.requestMin
                    dMax := s.opening.dMax
                    source := { state := .unknown, minimum := none, maximum := none, age := 11
                                lastOrigin := 0 } } ∧
      t.string.timing = s.string.timing ∧ t.string.requested = s.string.requested ∧
      t.string.monitor = s.string.monitor ∧ t.string.lastGroup = s.string.lastGroup ∧
      t.string.transfer = s.string.transfer.map fun x => { x with void := true }

/-- 07, section 7.6: RESEED gives every bound loop the seed of its record against the largest bound loop and
spoils it for the round; nothing else changes. -/
def Obligations.LoopsReseeded : Prop :=
  ∀ (s : State) (src : OrderFrom), s.atRest → s.store.state = .ready → s.accepts src →
    ∃ (t : State) (n : Nat), exec (.reseed src []) s = .next t ∧
      t = { s.withAnswer src 9 0 [] with loops := t.loops } ∧
      (∀ i, s.bound i = true → (s.loops.get i).cfg.size ≤ n) ∧
      (n = 0 ∨ ∃ i, s.bound i = true ∧ (s.loops.get i).cfg.size = n) ∧
      ∀ i,
        let l := s.loops.get i
        (s.bound i = false → t.loops.get i = l) ∧
        (s.bound i = true → ∀ f, l.cfg.seed = some f →
          t.loops.get i = { l with b := some (clampTo s.profile.bMin 1000 f), spoiled := true }) ∧
        (s.bound i = true → l.cfg.seed = none →
          t.loops.get i = { l with
            b := some (clampTo s.profile.bMin 1000 (divRound (1000 * (l.cfg.heat * l.cfg.length)) n))
            spoiled := true })

/-- 02, section 2.3; 06, section 6.4; 08, section 8.1: HOLD and RELEASE. No loop above 15 is known; HOLD is
refused on an UNBOUND loop and RELEASE on one that is not HELD. HOLD records the opening clamped to
[0, 1000] and the loop's O is worked out from it; RELEASE makes the loop CLOSED with O 0. No other loop
record changes, but that HOLD of the loop in EXERCISE has the next turn of the exercise taken. -/
def Obligations.HoldAndRelease : Prop :=
  ∀ (s : State) (src : OrderFrom) (n : Byte) (v : Int), s.atRest → s.loopsOk → s.store.state = .ready →
    s.accepts src → inWord v →
    let hold := Instr.hold src (n :: bytes16 v)
    let release := Instr.release src [n]
    let held := clampTo 0 1000 v
    (16 ≤ n.toNat → exec hold s = .next (s.withAnswer src 10 3 []) ∧
      exec release s = .next (s.withAnswer src 11 3 [])) ∧
    ∀ i : Fin 16, i.val = n.toNat →
      let l := s.loops.get i
      (l.state = .unbound → exec hold s = .next (s.withAnswer src 10 4 [])) ∧
      (l.state ≠ .held → exec release s = .next (s.withAnswer src 11 4 [])) ∧
      (l.state ≠ .unbound → ∃ t, exec hold s = .next t ∧
        t.ring = (s.withAnswer src 10 (if held = v then 0 else 1) []).ring ∧ t.flags = s.flags ∧
        t.loops.get i = { l with
          state := .held, hold := some held, reason := none, settle := 0, openRef := none
          settled := false
          o := if s.opening.alarm = true ∨ s.mode ≠ .heating ∨
                  (∃ r, l.cfg.room = some r ∧ (s.rooms.get r).limited = true) then 0
               else if 0 < min held l.cfg.oMax ∧ min held l.cfg.oMax < l.cfg.oMin then l.cfg.oMin
               else clampTo 0 l.cfg.oMax held } ∧
        (l.cfg.kind = some .motor → (t.heads.get i).commanded = some (t.loops.get i).o) ∧
        (l.state ≠ .exercise → ∀ j, j ≠ i → t.loops.get j = s.loops.get j) ∧
        (l.state = .exercise → s.turnTaken t i s.exercise.list ∧
          (∀ m, t.modulator.recs.get i = some m → s.queueOk → m.state = .idle) ∧
          ∀ j, j ≠ i → t.exercise.current.map Turn.loop ≠ some j → t.loops.get j = s.loops.get j)) ∧
      (l.state = .held → ∃ t, exec release s = .next t ∧
        t.ring = (s.withAnswer src 11 0 []).ring ∧ t.flags = s.flags ∧
        t.loops.get i = { l with
          state := .closed, hold := none, reason := none, o := 0
          settled := (t.loops.get i).settled } ∧
        (l.cfg.kind = some .motor → (t.heads.get i).commanded = some 0) ∧
        ∀ j, j ≠ i → t.loops.get j = s.loops.get j)

/-- 02, section 2.3; 06, section 6.5: CLEARFAULT makes a loop in FAULT with a reason other than HEAD CLOSED with O 0 and no
reason, and has the head of a KIND fault probed; it is refused on any other loop, and no loop above 15 is
known. -/
def Obligations.FaultCleared : Prop :=
  ∀ (s : State) (src : OrderFrom) (n : Byte), s.atRest → s.loopsOk → s.store.state = .ready →
    s.accepts src →
    let c := Instr.clearfault src [n]
    (16 ≤ n.toNat → exec c s = .next (s.withAnswer src 12 3 [])) ∧
    ∀ i : Fin 16, i.val = n.toNat →
      let l := s.loops.get i
      (l.state ≠ .fault ∨ l.reason = some .head → exec c s = .next (s.withAnswer src 12 4 [])) ∧
      (l.state = .fault → l.reason ≠ some .head → ∃ t, exec c s = .next t ∧
        t.ring = (s.withAnswer src 12 0 []).ring ∧ t.flags = s.flags ∧
        t.loops.get i = { l with
          state := .closed, hold := none, reason := none, o := 0
          settled := (t.loops.get i).settled } ∧
        (l.reason = some .kind → (t.heads.get i).wants.probe = true) ∧
        ∀ j, j ≠ i → t.loops.get j = s.loops.get j)

/-- 02, section 2.3; 09, section 9.7: STRING makes the timing it names the requested timing, or withdraws a
request when it names the timing that holds; any other argument is refused. (That the switch then begins at
its own row TIMING_SWITCH_BEGIN, also on a free string, is log entry 10.) -/
def Obligations.TimingRequested : Prop :=
  ∀ (s : State) (src : OrderFrom) (arg : Byte), s.atRest → s.accepts src →
    (arg ≠ 0#8 → arg ≠ 1#8 → exec (.string src [arg]) s = .next (s.withAnswer src 13 4 [])) ∧
    ∀ timing : Timing, (arg, timing) ∈ [(0#8, Timing.basic), (1#8, .fast)] →
      exec (.string src [arg]) s = .next { s.withAnswer src 13 0 [] with
        string := { s.string with
          requested := if timing = s.string.timing then none else some timing } }

/-- 02 R33 and what each chapter gives for a power-up: the straps are the station address, REPEATER or START
follows from them, the store is RECALLING and keeps its image, the queues and flags are empty, and the
working tables hold the factory defaults until the recall completes (that they do, with the channels UNUSED,
is log entry 4). A head record holds the values of log entry 3 where the spec gives none: re-probe count,
re-probe timing, code of the first miss, timing of the second. -/
def Obligations.PoweredUp : Prop :=
  ∀ (s : State) (straps : Fin 32), ∃ t, exec (.powerUp straps) s = .next t ∧
    t.ring = { station := straps.val, insertion := [], ownSend := [], out := none, streak := 0
               ownTag := 0, pendingCall := none, deferred := none } ∧
    t.mode = (if straps = 0 then .repeater else .start) ∧ t.store.state = .recalling ∧
    t.store.powerUp = true ∧ t.store.image.data = s.store.image.data ∧
    (s.store.state ≠ .storing → t.store.image = s.store.image) ∧
    (s.store.state = .storing → t.store.image.valid = false) ∧
    t.profile = .factory ∧ (∀ i, t.binding.get i = .free) ∧
    (∀ r, t.rooms.get r = .cleared .factory .unbound) ∧
    (∀ c, t.channels.get c = .cleared { input := c, trim := 0 } .unused) ∧
    (∀ i, t.loops.get i = .cleared (.factory i) .unbound none) ∧
    (∀ w, (t.windows.get w).state = .disarmed) ∧ (∀ h, t.heads.get h = .fresh) ∧
    (∀ i, t.modulator.recs.get i = none) ∧ t.modulator.queue = [] ∧
    (∀ n, t.flags.get n = { set := false, index := 255, value := 0, pending := false }) ∧
    t.opening.alarm = false ∧ t.opening.source.state = .unknown ∧ t.interrupted = true ∧
    t.string.timing = .basic ∧ t.string.monitor = .dip ∧ t.string.transfer = none ∧
    t.converter = none ∧ t.exercise.current = none ∧ t.pending = s.pending

/-- 02 R37: the power-up recall completes. The working tables are those of a valid image, or the factory
defaults, with STORE_EMPTY set; rooms, channels, loops, windows and heads start as their chapters give. (That a
flag that became pending under the factory mask stays pending under the recalled one, so that a valid image
leaves flags and ring as they are, is the model's choice, log entry 36.) -/
def Obligations.PowerUpRecallCompletes : Prop :=
  ∀ s : State, s.atRest → s.store.powerUp = true → s.store.state = .recalling →
    let d := if s.store.image.valid then s.store.image.data else .factory
    ∃ t, exec .powerUpRecallComplete s = .next t ∧ t.profile = d.profile ∧
      (∀ i, t.binding.get i = match d.bound.get i with
        | some p => .bound p.1 p.2 none 0
        | none => .free) ∧
      (∀ r, t.rooms.get r = .cleared (d.rooms.get r)
        (if (roomAddress t.binding r).isSome then .waiting else .unbound)) ∧
      (∀ i, t.loops.get i =
        if (d.loops.get i).bound then .cleared (d.loops.get i) .closed (d.factors.get i)
        else .cleared (d.loops.get i) .unbound none) ∧
      (∀ c, t.channels.get c = .cleared (d.channels.get c)
        (if 0 < t.references c then .filling else .unused)) ∧
      (∀ w, t.windows.get w = { cfg := d.windows.get w, count := 0
                                state := if d.written.get w then .armed else .disarmed }) ∧
      (∀ i, (d.loops.get i).bound = true →
        (t.heads.get i).wants.probe = true ∧ (t.heads.get i).commanded = some 0) ∧
      t.opening.tReq = d.profile.requestMin ∧ t.mode = s.mode ∧ t.startRounds = 0 ∧
      t.store = { s.store with state := .ready, powerUp := false } ∧
      (s.store.image.valid = true → t.flags = s.flags ∧ t.ring = s.ring) ∧
      (s.store.image.valid = false → t.flagged .storeEmpty 255 0 ∧ flagsKept [.storeEmpty] s t)

/-! ## Probe channels (04) -/

/-- 04, sections 4.2 to 4.4: a conversion starts at the slot of a referenced channel. A valid result joins
the history, whose newest eight are averaged into F; an invalid one counts as a missed period and, at the
thirtieth, empties the history and sets CHANNEL_LOST. A discarded result leaves the channel alone. 08, section
8.2: a valid sample of the supply channel has its new F tested for the alarm, and its loss sets SUPPLY_LOST with
the alarm state. (A result with no conversion in progress is log entry 11; that SUPPLY_LOST is set in REPEATER
too is log entry 22, and that CHANNEL_LOST is set before it log entry 38.) -/
def Obligations.ConversionsTaken : Prop :=
  ∀ (s : State) (c : Fin 18) (r : Conversion), s.atRest →
    let ch := s.channels.get c
    (s.starting = false → ch.state ≠ .unused → exec (.conversionStart c) s =
      .next { s with converter := some { channel := c, discard := false } }) ∧
    (s.starting = true ∨ ch.state = .unused → exec (.conversionStart c) s = .next s) ∧
    (s.converter = some { channel := c, discard := true } →
      exec (.conversionResult c r) s = .next { s with converter := none }) ∧
    (s.converter = none → exec (.conversionResult c r) s = .next s) ∧
    (s.converter = some { channel := c, discard := false } →
      (∀ x, r = .reading x → -3000 ≤ x + ch.cfg.trim → x + ch.cfg.trim ≤ 9500 →
        let v := x + ch.cfg.trim
        let history := (v :: ch.history).take 16
        let newest := history.take 8
        let run := min 3 (ch.validRun + 1)
        ∃ u t, exec (.conversionResult c r) s = .next t ∧
          (s.profile.supply = c → u.alarmTested t) ∧ (s.profile.supply ≠ c → t = u) ∧
          u = { s with converter := none, channels := u.channels } ∧
          (∀ d, d ≠ c → u.channels.get d = s.channels.get d) ∧
          u.channels.get c = { ch with
            history := history, filtered := some (divRound newest.sum newest.length)
            writeIndex := (ch.writeIndex + 1) % 16, validRun := run, missed := 0
            lastResult := .valid, lastReading := some v
            state := match ch.state with
              | .unused => .unused
              | .filling => if run = 3 then .fresh else .filling
              | .fresh => .fresh
              | .aging => .fresh
              | .lost => if run = 3 then .fresh else .lost }) ∧
      (∀ last reading, (r = .openProbe ∧ last = .openProbe ∧ reading = ch.lastReading ∨
          r = .shortProbe ∧ last = .shortProbe ∧ reading = ch.lastReading ∨
          ∃ x, r = .reading x ∧ (x + ch.cfg.trim < -3000 ∨ 9500 < x + ch.cfg.trim) ∧
            last = .outOfBand ∧ reading = some (x + ch.cfg.trim)) →
        let missed := min 255 (ch.missed + 1)
        let state : ChannelState := match ch.state with
          | .unused => .unused
          | .filling => if 30 ≤ missed then .lost else .filling
          | .fresh => if 6 ≤ missed then .aging else .fresh
          | .aging => if 30 ≤ missed then .lost else .aging
          | .lost => .lost
        let counted := { ch with validRun := 0, missed := missed, lastResult := last
                                 lastReading := reading, state := state }
        ∃ t, exec (.conversionResult c r) s = .next t ∧
          t = { s with converter := none, channels := t.channels, ring := t.ring, flags := t.flags } ∧
          (∀ d, d ≠ c → t.channels.get d = s.channels.get d) ∧
          t.channels.get c =
            (if state = .lost ∧ 30 ≤ missed then
              { counted with history := [], filtered := none, writeIndex := 0 } else counted) ∧
          (ch.state = .lost ∨ state ≠ .lost → t.flags = s.flags ∧ t.ring = s.ring) ∧
          (ch.state ≠ .lost → state = .lost →
            t.flagged .channelLost c.val (256 * ch.cfg.input.val + last.code) ∧
            (s.profile.supply = c → t.flagged .supplyLost c.val (if s.opening.alarm then 1 else 0)) ∧
            (s.profile.supply ≠ c → flagsKept [.channelLost] s t) ∧
            flagsKept [.channelLost, .supplyLost] s t)))

/-- 04, section 4.4: the rows for a channel that becomes FRESH, AGING or LOST are the results that make it
so, and CHANNEL_LOSS is also the result that empties the history of a LOST channel a second time, which sets no
flag; where the result in hand does not bring the transition, and where none is due, the row has no effect
(log entry 7). -/
def Obligations.ChannelTransitions : Prop :=
  ∀ (s : State) (c : Fin 18) (r : Conversion), s.atRest →
    let ch := s.channels.get c
    let valid := ∃ x, r = .reading x ∧ -3000 ≤ x + ch.cfg.trim ∧ x + ch.cfg.trim ≤ 9500
    let due := s.converter = some { channel := c, discard := false }
    let freshens := valid ∧ 2 ≤ ch.validRun ∧ (ch.state = .filling ∨ ch.state = .lost)
    let ages := ¬ valid ∧ 5 ≤ ch.missed ∧ ch.state = .fresh
    let loses := ¬ valid ∧ 29 ≤ ch.missed ∧ (ch.state = .filling ∨ ch.state = .aging)
    let emptiesAgain := ¬ valid ∧ ch.missed = 29 ∧ ch.state = .lost
    (due → freshens →
      ∃ t, exec (.channelFresh c r) s = .next t ∧ exec (.conversionResult c r) s = .next t ∧
        (t.channels.get c).state = .fresh) ∧
    (due → ages →
      ∃ t, exec (.channelAging c r) s = .next t ∧ exec (.conversionResult c r) s = .next t ∧
        (t.channels.get c).state = .aging ∧ (t.channels.get c).filtered = ch.filtered) ∧
    (due → loses ∨ emptiesAgain →
      ∃ t, exec (.channelLoss c r) s = .next t ∧ exec (.conversionResult c r) s = .next t ∧
        (t.channels.get c).state = .lost ∧ (t.channels.get c).filtered = none ∧
        (t.channels.get c).history = [] ∧
        (loses → (t.flags.get Flag.channelLost.number).set = true) ∧
        (emptiesAgain → t.flags = s.flags ∧ t.ring = s.ring)) ∧
    (¬ due ∨ ¬ freshens → exec (.channelFresh c r) s = .next s) ∧
    (¬ due ∨ ¬ ages → exec (.channelAging c r) s = .next s) ∧
    (¬ due ∨ ¬ (loses ∨ emptiesAgain) → exec (.channelLoss c r) s = .next s)

/-! ## The control round (03, 05, 08) -/

/-- 03, sections 3.1.1, 3.2.2 and 3.2.3; 05, sections 5.2 to 5.6: at a control-round expiry every entry
and every room ages, and the room controller works out every room's demand from its state, WINDOW mark and
mode. (The order of the work is log entry 6.) -/
def Obligations.RoundAgesAndDemands : Prop :=
  ∀ s : State, s.atRest → s.starting = false → ∃ t, exec .controlRoundExpiry s = .next t ∧
    (∀ i, t.binding.get i = match s.binding.get i with
      | .free => .free
      | .bound a r last n => .bound a r last (min 255 (n + 1))
      | .learned a k last n => .learned a k last (min 255 (n + 1))) ∧
    ∀ r : Fin 12,
      let old := s.rooms.get r
      let new := t.rooms.get r
      let bound := old.state ≠ .unbound
      let waits := bound ∧ old.windowMark = true
      let timesOut := waits ∧ old.cfg.windowTimeout ≤ old.windowRounds + 1
      new.cfg = old.cfg ∧ new.air = old.air ∧ new.setpoint = old.setpoint ∧ new.mode = old.mode ∧
      new.floor = old.floor ∧ new.limited = old.limited ∧
      (bound → new.sinceReport = min 255 (old.sinceReport + 1)) ∧
      (¬ bound → new = { old with demand := 0 }) ∧
      ((old.state = .waiting ∨ old.state = .active) ∧ old.cfg.staleTime ≤ min 255 (old.sinceReport + 1) →
        new.state = .stale ∧ (t.flags.get Flag.roomStale.number).set = true) ∧
      (¬ ((old.state = .waiting ∨ old.state = .active) ∧
          old.cfg.staleTime ≤ min 255 (old.sinceReport + 1)) → new.state = old.state) ∧
      (timesOut → new.windowMark = false ∧ new.windowRounds = 0 ∧ new.lockout = true) ∧
      (waits → ¬ timesOut → new.windowMark = true ∧ new.windowRounds = old.windowRounds + 1) ∧
      (¬ waits → new.windowMark = old.windowMark ∧ new.windowRounds = old.windowRounds ∧
        new.lockout = old.lockout) ∧
      (new.state = .waiting → new.demand = 0 ∧ new.integrator = old.integrator) ∧
      (new.state = .stale → new.integrator = old.integrator ∧
        new.demand = if new.windowMark then 0 else old.cfg.fallback) ∧
      (new.state = .active → new.windowMark = true →
        new.demand = 0 ∧ new.integrator = old.integrator) ∧
      (new.state = .active → new.windowMark = false → old.mode = some .off →
        new.integrator = 0 ∧
        new.demand = match old.air with
          | some a => if a < 700 then 300 else 0
          | none => 0) ∧
      (new.state = .active → new.windowMark = false → ∀ set air, old.setpoint = some set →
        old.air = some air → (old.mode = some .comfort ∨ old.mode = some .setback) →
        let effective := if old.mode = some .comfort then set else set - old.cfg.setback
        let e := clampTo (-500) 500 (effective - air)
        let held := old.demand = 1000 ∧ 0 < e ∨ old.demand = 0 ∧ e < 0
        new.integrator = (if held then old.integrator
          else clampTo 0 1000 (old.integrator + divRound (e * old.cfg.ki) 6000)) ∧
        new.demand = clampTo 0 1000 (divRound (e * old.cfg.kp) 100 + new.integrator))

/-- 08, sections 8.1 to 8.3 and 8.5; 01, section 1.5; 02, section 2.4; 06, sections 6.3 and 6.5: at a
control-round expiry the source record ages, and the sensor degraded marks follow the channels. In HEATING a
loop's O is worked out from its room's demand and its B within its limits, from its hold opening or from its
safe opening, and is 0 for an UNBOUND loop, a FAULT with reason HEAD or KIND and a LIMITED room; the loop states
act on the new O; a new MOVE made for it clears the head settled mark, and an OPENING MOTOR loop then stays
OPENING; and a CALL formed from the state at the end is queued, pending or on its way, in the place of a CALL
that was queued. (These targets are stated while no exercise runs, the alarm is clear, and no fault
befalls the loop at the expiry.) Out of HEATING every O is 0 while no exercise runs or begins, and no CALL is
made; with the alarm set every O is 0. The first START round ends without a change of mode. Before the power-up
recall completes nothing happens. (The last is log entry 24; the order of the work is log entry 6.) -/
def Obligations.RoundTargetsAndCall : Prop :=
  ∀ s : State, s.atRest →
    (s.starting = true → exec .controlRoundExpiry s = .next s) ∧
    (s.starting = false → ∃ t, exec .controlRoundExpiry s = .next t ∧
      t.profile = s.profile ∧ t.store = s.store ∧ t.channels = s.channels ∧
      t.ring.station = s.ring.station ∧
      (s.mode ≠ .repeater → t.opening.source.age = min 255 (s.opening.source.age + 1)) ∧
      (s.mode ≠ .repeater → s.opening.source.age = 10 →
        t.opening.source.state = .unknown ∧ (t.flags.get Flag.sourceStale.number).set = true) ∧
      (s.mode = .repeater → t.opening.source = s.opening.source) ∧
      (∀ i, (t.loops.get i).cfg = (s.loops.get i).cfg) ∧
      (∀ i, (t.loops.get i).degraded = ((s.loops.get i).cfg.bound &&
        ((s.channels.get (s.loops.get i).cfg.channel).state == .aging ||
          (s.channels.get (s.loops.get i).cfg.channel).state == .lost))) ∧
      (s.opening.alarm = true → t.opening.alarm = true ∧ ∀ i, (t.loops.get i).o = 0) ∧
      (s.mode ≠ .heating → noticesOnly s t) ∧
      (s.mode ≠ .heating → s.exercise.running = false → s.loopsOk →
        (s.mode = .summer → s.interval < 10079) →
        (∀ i, (t.loops.get i).o = 0) ∧ t.opening.tReq = s.opening.tReq ∧
          t.opening.up = 0 ∧ t.opening.down = 0) ∧
      (s.mode = .heating → s.loopsOk → s.exercise.running = false → s.opening.alarm = false →
        ∀ i : Fin 16,
          let l := s.loops.get i
          let n := t.loops.get i
          let c := l.cfg
          let h := s.heads.get i
          let room := fun P : Room → Prop => ∃ r, c.room = some r ∧ P (t.rooms.get r)
          let fixed := fun v : Int =>
            let x := clampTo 0 c.oMax v
            if 0 < x ∧ x < c.oMin then c.oMin else x
          let closes := l.state = .unbound ∨
            l.state = .fault ∧ (l.reason = some .head ∨ l.reason = some .kind) ∨ room fun r => r.limited = true
          let turns := if c.kind = some .thermal then s.profile.warmUp + 2 else 3
          let drives := ∀ a, h.acked = some a → n.o ≠ a ∧
            (s.profile.motorDeadband ≤ n.o - a ∨ s.profile.motorDeadband ≤ a - n.o ∨
              n.o = 0 ∨ n.o = 1000 ∨ a = 0)
          let moves := c.kind = some .motor ∧ h.commanded ≠ some n.o ∧ h.wants.drive = false ∧
            h.unreachable = false ∧ (h.kind = none ∨ h.kind = some .motor) ∧ drives
          (h.unreachable = true → l.reason = some .head) →
          (∀ k, h.moving = some k → 4 ≤ k → s.string.monitor ≠ .good) →
          (∀ w, (s.windows.get w).state = .armed → (s.windows.get w).cfg.faults = true →
            (s.windows.get w).cfg.loop ≠ some i) →
          (closes → n.o = 0) ∧
          (¬ closes → ∀ v, l.state = .held → l.hold = some v → n.o = fixed v) ∧
          (¬ closes → l.state = .fault → n.o = fixed c.safe) ∧
          (¬ closes → l.state ∈ [.closed, .opening, .open] → ∀ b, n.b = some b →
            room fun r =>
              let base := divRound (r.demand * b) 1000
              n.o = if 0 < base then clampTo c.oMin c.oMax base else 0) ∧
          (l.state ∈ [.unbound, .held, .fault] → n.state = l.state ∧ n.settle = l.settle ∧
            n.openRef = l.openRef) ∧
          (l.state = .closed → n.o ≤ 0 → n.state = .closed) ∧
          (l.state = .closed → 0 < n.o → n.state = .opening ∧ n.settle = turns ∧
            (c.kind = some .motor → n.settled = false)) ∧
          (l.state = .opening ∨ l.state = .open → n.o ≤ 0 →
            n.state = .closed ∧ n.settle = 0 ∧ n.openRef = none) ∧
          (l.state = .opening → 0 < n.o → l.settle ≤ 1 → l.settled = true → ¬ moves →
            n.state = .open ∧ n.settle = 0 ∧ n.openRef = some n.o) ∧
          (l.state = .opening → 0 < n.o → 1 < l.settle ∨ l.settled = false ∨ moves →
            n.state = .opening ∧ n.settle = l.settle - 1 ∧ n.openRef = l.openRef) ∧
          (l.state = .open → 0 < n.o → ∀ v, l.openRef = some v →
            (n.o - v < 100 → v - n.o < 100 →
              n.state = .open ∧ n.settle = l.settle ∧ n.openRef = some v) ∧
            (100 ≤ n.o - v ∨ 100 ≤ v - n.o → n.state = .opening ∧ n.settle = turns)) ∧
          (l.state ∈ [.closed, .opening, .open] → moves → n.settled = false) ∧
          (l.state ∈ [.opening, .open] → c.kind = some .motor → ¬ moves → n.settled = l.settled)) ∧
      (s.mode = .heating →
        let payload := bytes16 t.opening.tReq ++
          [if 0 < t.loopsOpen ∧ t.opening.alarm = false then 1#8 else 0#8] ++
          bytes16 t.opening.dMax ++
          [byteOf t.loopsOpen, if t.opening.alarm then 1#8 else 0#8]
        t.mode = .heating ∧
        ((∃ f, t.sends f ∧ f.kind = .call ∧ f.dest = 0 ∧ f.hop = 31 ∧ f.payload = payload) ∨
          t.ring.pendingCall = some payload) ∧
        ∀ (k : Nat) (f : Frame), s.ring.ownSend[k]? = some f → f.kind = .call →
          t.ring.ownSend[k]? = some (s.callFrame t.ring.ownTag payload)) ∧
      (s.mode = .start → s.startRounds = 0 → t.mode = .start ∧ t.startRounds = 1))

/-- 02, section 2.4: START ends at its second expiry in the mode that the profile holds, and the balancing
round restarts; before that the row has no effect (log entry 7). -/
def Obligations.StartEnds : Prop :=
  ∀ s : State, s.atRest → s.starting = false →
    let cleared := s.loops.map fun l => { l with spreadSum := 0, spreadCount := 0, spoiled := false }
    (s.mode = .start → 1 ≤ s.startRounds → s.profile.modeAtStart = .heating →
      exec .startEnd s = .next { s with
        mode := .heating, startRounds := s.startRounds + 1, roundPos := 0, loops := cleared }) ∧
    (s.mode = .start → 1 ≤ s.startRounds → s.profile.modeAtStart = .summer →
      exec .startEnd s = .next { s with
        mode := .summer, startRounds := s.startRounds + 1, roundPos := 0, loops := cleared
        interval := 0 }) ∧
    (s.mode ≠ .start ∨ s.startRounds = 0 → exec .startEnd s = .next s)

/-! ## Loops and the valve exercise (06) -/

/-- 02, section 2.4; 06, section 6.6: after 10080 rounds of SUMMER an exercise starts with the first bound
loop that is not HELD or in FAULT (here a MOTOR loop), unless one runs or the alarm is set. Its open phase
has O_max and position 1000; at the third expiry the close phase has O 0 and position 0; at the third
expiry of that the loop is CLOSED and no longer the one exercised. (What the rows do when they are not due
is log entry 7.) -/
def Obligations.ExerciseRuns : Prop :=
  ∀ s : State, s.atRest → s.loopsOk → s.starting = false →
    (s.mode = .summer → 10079 ≤ s.interval → s.exercise.running = true →
      exec .exerciseStart s = .next { s with interval := 0 }) ∧
    (s.mode ≠ .summer ∨ s.interval < 10079 → exec .exerciseStart s = .next s) ∧
    (s.mode = .summer → 10079 ≤ s.interval → s.exercise.running = false → s.opening.alarm = true →
      exec .exerciseStart s = .next { s with
        interval := 0
        exercise := { running := true, list := (List.finRange 16).filter s.bound, current := none
                      turnDue := true } }) ∧
    (s.mode = .summer → 10079 ≤ s.interval → s.exercise.running = false → s.opening.alarm = false →
      (∀ i, s.bound i = true → (s.loops.get i).state = .held ∨ (s.loops.get i).state = .fault) →
      exec .exerciseStart s = .next { s with
        interval := 0
        exercise := { running := false, list := [], current := none, turnDue := false } }) ∧
    (s.mode = .summer → 10079 ≤ s.interval → s.exercise.running = false → s.opening.alarm = false →
      ∀ i, s.boundKind i = some .motor → (s.loops.get i).state ≠ .held →
        (s.loops.get i).state ≠ .fault →
        (∀ j, j < i → s.bound j = true → (s.loops.get j).state = .held ∨ (s.loops.get j).state = .fault) →
        ∃ t, exec .exerciseStart s = .next t ∧
          t = { s with
            interval := 0, loops := t.loops, heads := t.heads
            string := { s.string with order := t.string.order }
            exercise := {
              running := true, list := (List.finRange 16).filter fun j => s.bound j && decide (i < j)
              current := some { loop := i, phase := .open, count := some 0 }, turnDue := false } } ∧
          t.loops.get i = { s.loops.get i with
            state := .exercise, settle := 0, openRef := none, hold := none, settled := false
            o := (s.loops.get i).cfg.oMax } ∧
          (∀ j, j ≠ i → t.loops.get j = s.loops.get j ∧ t.heads.get j = s.heads.get j) ∧
          (t.heads.get i).commanded = some 1000) ∧
    (∀ i n, s.exercise.current = some { loop := i, phase := .open, count := some n } → 2 ≤ n →
      s.boundKind i = some .motor → ∃ t, exec .exercisePhaseEnd s = .next t ∧
        t.exercise = { s.exercise with current := some { loop := i, phase := .close, count := some 0 } } ∧
        t.loops.get i = { s.loops.get i with o := 0, settled := (t.loops.get i).settled } ∧
        (t.heads.get i).commanded = some 0) ∧
    (∀ i n, s.exercise.current = some { loop := i, phase := .close, count := some n } → 2 ≤ n →
      s.boundKind i = some .motor → ∃ t, exec .exercisePhaseEnd s = .next t ∧
        (i ∉ s.exercise.list → (t.loops.get i).state = .closed ∧ (t.loops.get i).o = 0) ∧
        (s.exercise.list = [] → t.exercise.running = s.opening.alarm ∧ t.exercise.current = none ∧
          t.exercise.turnDue = s.opening.alarm)) ∧
    (s.exercise.current = none → exec .exercisePhaseEnd s = .next s)

/-- 07, sections 7.2 to 7.4: at the expiry that completes a balancing round in HEATING, a loop that has
spread well in every one of its rounds has B corrected by its mean spread, all factors are scaled so that
the largest is 1000, and the accumulations start again. At every control-round expiry the round interruption
mark is set or cleared for the round that begins. At one in HEATING that does not complete the balancing round
the round position rises, a loop that spreads well adds its spread, and any other bound loop is spoiled (stated
for an expiry at which the source record does not go stale). (What the row does when it is not due is log entry
7, and that it leaves the round interruption mark alone log entry 52.) -/
def Obligations.BalancingRoundEnds : Prop :=
  ∀ s : State, s.atRest → s.starting = false →
    let p := s.profile
    let fresh := fun (c : Fin 18) (v : Int) =>
      (s.channels.get c).state = .fresh ∧ (s.channels.get c).filtered = some v
    let adds := fun (i : Fin 16) (x : Int) =>
      let l := s.loops.get i
      l.cfg.bound = true ∧ l.spoiled = false ∧ l.state = .open ∧ p.eligibility ≤ l.o ∧
        s.interrupted = false ∧ 0 ≤ x ∧ x ≤ 2500 ∧
        ∃ a b, fresh p.supply a ∧ fresh l.cfg.channel b ∧ x = a - b
    (s.mode ≠ .heating ∨ s.roundPos + 1 < p.roundLength → exec .balancingRoundEnd s = .next s) ∧
    (∃ t, exec .controlRoundExpiry s = .next t ∧
      t.interrupted = (t.opening.source.state != .run || t.opening.alarm)) ∧
    (s.mode = .heating → s.roundPos + 1 < p.roundLength → s.opening.source.age ≠ 10 →
      ∃ t, exec .controlRoundExpiry s = .next t ∧ t.roundPos = s.roundPos + 1 ∧
        ∀ i,
          let l := s.loops.get i
          let n := t.loops.get i
          n.b = l.b ∧
          (∀ x, adds i x → n.spreadSum = l.spreadSum + x ∧ n.spreadCount = l.spreadCount + 1 ∧
            n.spoiled = false) ∧
          ((∀ x, ¬ adds i x) → n.spreadSum = l.spreadSum ∧ n.spreadCount = l.spreadCount ∧
            n.spoiled = (l.spoiled || l.cfg.bound))) ∧
    (s.mode = .heating → p.roundLength ≤ s.roundPos + 1 →
      let qualifies := fun (i : Fin 16) (x : Int) =>
        adds i x ∧ (s.loops.get i).spreadCount + 1 = p.roundLength
      let corrected := fun (x sum b : Int) =>
        let err := divRound (sum + x) p.roundLength - p.spreadTarget
        if -p.deadband ≤ err ∧ err ≤ p.deadband then b
        else clampTo p.bMin 1000
          (b + clampTo (-p.stepLimit) p.stepLimit (divRound (err * p.gain) 100))
      ∃ (t : State) (b : Fin 16 → Option Int) (m : Int), exec .balancingRoundEnd s = .next t ∧
        t = { s with loops := t.loops, roundPos := 0 } ∧
        (∀ i x, qualifies i x →
          b i = (s.loops.get i).b.map (corrected x (s.loops.get i).spreadSum)) ∧
        (∀ i, (∀ x, ¬ qualifies i x) → b i = (s.loops.get i).b) ∧
        0 ≤ m ∧ (∀ i v, s.bound i = true → b i = some v → v ≤ m) ∧
        (m = 0 ∨ ∃ i, s.bound i = true ∧ b i = some m) ∧
        ∀ i,
          let scales := (∃ j x, qualifies j x) ∧ 0 < m ∧ m < 1000 ∧ s.bound i = true
          (scales → t.loops.get i = { s.loops.get i with
            b := (b i).map fun v => divRound (v * 1000) m.toNat
            spreadSum := 0, spreadCount := 0, spoiled := false }) ∧
          (¬ scales → t.loops.get i = { s.loops.get i with
            b := b i, spreadSum := 0, spreadCount := 0, spoiled := false }))

/-- 03, sections 3.2.2 and 3.2.3; 08, section 8.3: the rows of a room that goes STALE, of a WINDOW mark that
times out and of a source record that goes stale, when the next expiry would bring them about; and none of
them otherwise (log entry 7). -/
def Obligations.StaleEvents : Prop :=
  ∀ (s : State) (r : Fin 12), s.atRest → s.starting = false →
    let room := s.rooms.get r
    let n := min 255 (room.sinceReport + 1)
    let goesStale := (room.state = .waiting ∨ room.state = .active) ∧ room.cfg.staleTime ≤ n
    let timesOut := room.state ≠ .unbound ∧ room.windowMark = true ∧
      room.cfg.windowTimeout ≤ room.windowRounds + 1
    (goesStale → ∃ t, exec (.roomStaleTimeout r) s = .next t ∧
      t = { s with rooms := t.rooms, ring := t.ring, flags := t.flags } ∧ noticesOnly s t ∧
      t.rooms.get r = { room with state := .stale, sinceReport := n } ∧
      (∀ q, q ≠ r → t.rooms.get q = s.rooms.get q) ∧
      t.flagged .roomStale r.val n ∧ flagsKept [.roomStale] s t) ∧
    (¬ goesStale → exec (.roomStaleTimeout r) s = .next s) ∧
    (timesOut → ∃ t, exec (.windowTimeout r) s = .next t ∧ t = { s with rooms := t.rooms } ∧
      t.rooms.get r = { room with windowMark := false, windowRounds := 0, lockout := true } ∧
      ∀ q, q ≠ r → t.rooms.get q = s.rooms.get q) ∧
    (¬ timesOut → exec (.windowTimeout r) s = .next s) ∧
    (s.mode ≠ .repeater → s.opening.source.age = 10 → ∃ t, exec .sourceRecordStale s = .next t ∧
      t = { s with
        ring := t.ring, flags := t.flags, interrupted := true
        opening := { s.opening with source := { s.opening.source with age := 11, state := .unknown } } } ∧
      noticesOnly s t ∧ t.flagged .sourceStale 255 s.opening.source.lastOrigin ∧
      flagsKept [.sourceStale] s t) ∧
    (s.mode = .repeater ∨ s.opening.source.age ≠ 10 → exec .sourceRecordStale s = .next s)

/-- 08, section 8.4: the third round of a high demand raises T_req by the request step, the third of a low
one lowers it, both counters return to 0, and T_req is then bounded by the warmest room and held within
the request limits (here with no fresh source record). (What the row does when it is not due is log entry
7.) -/
def Obligations.RequestSteps : Prop :=
  ∀ (s : State) (d : Int), s.atRest → s.starting = false → s.mode = .heating →
    10 < s.opening.source.age → s.profile.requestMin ≤ s.profile.requestMax → 0 ≤ d →
    (let counts := fun r : Fin 12 =>
       ((s.rooms.get r).state = .active ∨ (s.rooms.get r).state = .stale) ∧
         (s.rooms.get r).windowMark = false ∧ (s.rooms.get r).limited = false
     (∀ r, counts r → (s.rooms.get r).demand ≤ d) ∧
       (d = 0 ∨ ∃ r, counts r ∧ (s.rooms.get r).demand = d)) →
    let rises := 900 ≤ d ∧ 2 ≤ s.opening.up
    let falls := d ≤ 600 ∧ 2 ≤ s.opening.down
    let stepped := if rises then s.opening.tReq + s.profile.requestStep
                   else s.opening.tReq - s.profile.requestStep
    (¬ rises → ¬ falls → exec .requestStep s = .next s) ∧
    (rises ∨ falls → ∃ t v, exec .requestStep s = .next t ∧
      t = { s with opening := { s.opening with
        up := 0, down := 0, dMax := d
        tReq := clampTo s.profile.requestMin s.profile.requestMax v } } ∧
      ((∀ r e, 0 < (s.rooms.get r).demand → (s.rooms.get r).effective ≠ some e) → v = stepped) ∧
      ∀ r e, 0 < (s.rooms.get r).demand → (s.rooms.get r).effective = some e →
        (∀ q e', 0 < (s.rooms.get q).demand → (s.rooms.get q).effective = some e' → e' ≤ e) →
        v = max stepped (e + 300))

/-- 06, section 6.3: an OPENING loop with O above 0, its settle counter at its end and its head settled
becomes OPEN with its O as open reference; no other loop has the row. (What the row does when it is not
due is log entry 7.) -/
def Obligations.LoopSettles : Prop :=
  ∀ (s : State) (i : Fin 16), s.atRest → s.starting = false →
    let l := s.loops.get i
    let settles := l.state = .opening ∧ 0 < l.o ∧ l.settle ≤ 1 ∧ l.settled = true
    (settles → ∃ t, exec (.loopSettled i) s = .next t ∧ t = { s with loops := t.loops } ∧
      t.loops.get i = { l with state := .open, settle := 0, openRef := some l.o } ∧
      ∀ j, j ≠ i → t.loops.get j = s.loops.get j) ∧
    (¬ settles → exec (.loopSettled i) s = .next s)

/-! ## Supervision windows (11) -/

/-- 11, section 11.2: an ARMED window on a bound loop with O at its qualifier or above, whose value
matches and whose count reaches its threshold, is TRIPPED with WINDOW_TRIP set; with the action NOTICE
alone nothing else changes, with NOTICE_AND_FAULT a loop in a state other than FAULT enters FAULT with reason
WINDOW, and one that was in EXERCISE has the next turn taken. (What the row does when it is not due is log entry
7.) -/
def Obligations.WindowTrips : Prop :=
  ∀ (s : State) (w : Fin 8) (i : Fin 16) (v : Int), s.atRest → s.starting = false → s.mode ≠ .repeater →
    let x := s.windows.get w
    let l := s.loops.get i
    let fresh := fun (c : Fin 18) (v : Int) =>
      (s.channels.get c).state = .fresh ∧ (s.channels.get c).filtered = some v
    let value := match x.cfg.quantity with
      | .return => fresh l.cfg.channel v
      | .spread => ∃ a b, fresh s.profile.supply a ∧ fresh l.cfg.channel b ∧ v = a - b
      | .opening => v = l.o
    let inside := x.cfg.low ≤ v ∧ v ≤ x.cfg.high
    x.cfg.loop = some i → l.state ≠ .unbound → value →
    (x.state = .armed → x.cfg.qualifier ≤ l.o → (x.cfg.outside = true ↔ ¬ inside) →
      x.cfg.threshold ≤ x.count + 1 → ∃ t, exec (.windowTrip w) s = .next t ∧
        t.flagged .windowTrip w.val v ∧ flagsKept [.windowTrip] s t ∧
        t.windows.get w = { x with state := .tripped, count := x.cfg.threshold } ∧
        (∀ y, y ≠ w → t.windows.get y = s.windows.get y) ∧
        (x.cfg.faults = false →
          t = { s with windows := t.windows, ring := t.ring, flags := t.flags } ∧ noticesOnly s t) ∧
        (s.loopsOk → x.cfg.faults = true → l.state = .exercise → s.turnTaken t i s.exercise.list) ∧
        (x.cfg.faults = true → l.state ≠ .fault →
          (t.loops.get i).state = .fault ∧ (t.loops.get i).reason = some .window ∧
          (t.loops.get i).hold = none ∧ (t.loops.get i).openRef = none ∧
          (t.loops.get i).settle = 0 ∧ (t.loops.get i).cfg = l.cfg ∧ (t.loops.get i).b = l.b)) ∧
    (x.state ≠ .armed ∨ l.o < x.cfg.qualifier ∨ (x.cfg.outside = true ↔ inside) →
      exec (.windowTrip w) s = .next s)

/-! ## Thermal modulation (10) -/

/-- 10, sections 10.2 to 10.5: the period start works out the on-slots: an IDLE loop then waits, a starved
one at the head of the queue; a request still waiting is withdrawn as starved first; a head that is on is kept
on, or switched off at on-slots 0. A warm-up that completes makes the record ON and settles an OPENING loop. The
switch-off slot makes a GRANTED, WARMING or ON record IDLE with its head commanded off, and withdraws a waiting
request as starved. The grants that these free follow. (What the rows do when they are not due is log entry 7; that a head is kept
on at a period start also after a change of the period is log entry 46, and that a held drive want keeps a
granted record from WARMING log entry 47.) -/
def Obligations.ModulationSteps : Prop :=
  ∀ (s : State) (i : Fin 16) (m : ModRec), s.atRest → s.starting = false → s.loopsOk → s.queueOk →
    s.modulator.recs.get i = some m → s.exercising i = false →
    let p := s.profile
    let phase := (i.val % 4) * (p.period / 4)
    let starts := (s.modulator.slotCount + 1) % p.period = phase
    let others := fun t : State => ∀ j, j ≠ i → t.modulator.recs.get j = s.modulator.recs.get j
    let base := (divRound ((s.loops.get i).o * p.period) 1000).toNat
    let slots := if base = 0 then 0 else min p.period (base + p.warmUp)
    let next := min 60 (m.slotPos + 1)
    let running := m.state ∈ [.granted, .warming, .on]
    let shut := fun u : State => u.heads.get i = { s.heads.get i with
        commanded := some 0, wants := (u.heads.get i).wants } ∧
      ∀ j, j ≠ i → u.heads.get j = s.heads.get j
    (¬ starts → exec (.periodStart i) s = .next s) ∧
    (starts → m.state = .idle → ∃ u t, exec (.periodStart i) s = .next t ∧ u.grantsFrom t p.inrush ∧
      u = { s with modulator := { s.modulator with recs := u.modulator.recs
                                                   queue := u.modulator.queue } } ∧
      u.modulator.recs.get i = some { m with
        onSlots := slots, slotPos := 0, starved := false
        state := if slots = 0 then .idle else .waiting } ∧ others u ∧
      u.modulator.queue = if slots = 0 then s.modulator.queue
        else if m.starved then i :: s.modulator.queue else s.modulator.queue ++ [i]) ∧
    (starts → m.state = .waiting → ∃ u t, exec (.periodStart i) s = .next t ∧ u.grantsFrom t p.inrush ∧
      u = { s with ring := u.ring, flags := u.flags
                   modulator := { s.modulator with recs := u.modulator.recs
                                                   queue := u.modulator.queue } } ∧
      noticesOnly s u ∧ u.flagged .inrushStarved i.val m.onSlots ∧ flagsKept [.inrushStarved] s u ∧
      u.modulator.recs.get i = some { m with
        onSlots := slots, slotPos := 0, starved := false
        state := if slots = 0 then .idle else .waiting } ∧ others u ∧
      u.modulator.queue = if slots = 0 then s.modulator.queue.filter (· != i)
        else i :: s.modulator.queue.filter (· != i)) ∧
    (starts → running → 0 < slots → ∃ u t, exec (.periodStart i) s = .next t ∧ u.grantsFrom t p.inrush ∧
      u = { s with modulator := { s.modulator with recs := u.modulator.recs } } ∧ others u ∧
      u.modulator.recs.get i = some { m with onSlots := slots, slotPos := 0, starved := false }) ∧
    (starts → running → slots = 0 → ∃ u t, exec (.periodStart i) s = .next t ∧ u.grantsFrom t p.inrush ∧
      u = { s with heads := u.heads
                   modulator := { s.modulator with recs := u.modulator.recs } } ∧ others u ∧ shut u ∧
      u.modulator.recs.get i = some { m with
        onSlots := 0, slotPos := 0, starved := false, state := .idle, warmCount := 0 }) ∧
    (m.state = .warming → p.warmUp ≤ m.warmCount + 1 →
      ∃ u t, exec (.warmUpComplete i) s = .next t ∧ u.grantsFrom t p.inrush ∧
        u = { s with loops := u.loops, modulator := { s.modulator with recs := u.modulator.recs } } ∧
        u.modulator.recs.get i = some { m with state := .on, warmCount := m.warmCount + 1 } ∧ others u ∧
        (∀ j, j ≠ i → u.loops.get j = s.loops.get j) ∧
        u.loops.get i = { s.loops.get i with
          settled := (s.loops.get i).settled || (s.loops.get i).state == .opening }) ∧
    (m.state ≠ .warming ∨ m.warmCount + 1 < p.warmUp → exec (.warmUpComplete i) s = .next s) ∧
    (running → next = m.onSlots → ¬ starts →
      ∃ u t, exec (.switchOffSlot i) s = .next t ∧ u.grantsFrom t p.inrush ∧
        u = { s with heads := u.heads
                     modulator := { s.modulator with recs := u.modulator.recs } } ∧ others u ∧ shut u ∧
        u.modulator.recs.get i = some { m with state := .idle, slotPos := next, warmCount := 0 }) ∧
    (running → next = m.onSlots → starts → exec (.switchOffSlot i) s = .next s) ∧
    (m.state = .waiting → next = m.onSlots →
      ∃ t, exec (.switchOffSlot i) s = .next t ∧
        t = { s with
          ring := t.ring, flags := t.flags
          modulator := { s.modulator with recs := t.modulator.recs
                                          queue := s.modulator.queue.filter (· != i) } } ∧
        t.modulator.recs.get i = some { m with state := .idle, slotPos := next, starved := true } ∧
        others t ∧
        noticesOnly s t ∧ t.flagged .inrushStarved i.val m.onSlots ∧ flagsKept [.inrushStarved] s t) ∧
    (next ≠ m.onSlots ∨ m.state = .idle → exec (.switchOffSlot i) s = .next s)

/-! ## The actuator string (09) -/

/-- 09, section 9.6; 06, section 6.5: the fifth round of a travel with no arrival is a stall: the travel
ends, HEAD_FAULT is set with the position, and a loop in a state other than FAULT enters FAULT with reason
STALL; one that was in EXERCISE has the next turn taken. 09, section 9.5: the tenth round of an UNREACHABLE head of a bound loop makes a
re-probe. (What the rows do when they are not due is log entry 7; that the re-probe is of a bound loop's
head alone is log entry 29.) -/
def Obligations.StallsAndReprobes : Prop :=
  ∀ (s : State) (h : Fin 16), s.atRest → s.loopsOk → s.starting = false →
    let d := s.heads.get h
    (∀ n, d.moving = some n → 4 ≤ n → s.string.monitor = .good → s.bound h = true →
      ∃ t, exec (.headStall h) s = .next t ∧ (t.heads.get h).moving = none ∧
        t.flagged .headFault h.val (d.position.getD (-32768)) ∧ flagsKept [.headFault] s t ∧
        ((s.loops.get h).state = .exercise → s.turnTaken t h s.exercise.list) ∧
        ((s.loops.get h).state ≠ .fault →
          (t.loops.get h).state = .fault ∧ (t.loops.get h).reason = some .stall ∧
          (t.loops.get h).hold = none ∧ (t.loops.get h).openRef = none ∧
          (t.loops.get h).settle = 0)) ∧
    (d.moving = none ∨ s.string.monitor ≠ .good ∨ (∃ n, d.moving = some n ∧ n < 4) →
      exec (.headStall h) s = .next s) ∧
    (d.unreachable = true → s.bound h = true → 9 ≤ d.reprobeCount →
      ∃ t, exec (.reprobeDue h) s = .next t ∧
        t = { s with heads := t.heads, string := { s.string with order := t.string.order } } ∧
        t.heads.get h = { d with reprobeCount := 0, wants := { d.wants with reprobe := true } } ∧
        ∀ j, j ≠ h → t.heads.get j = s.heads.get j) ∧
    (d.unreachable = false ∨ s.bound h = false ∨ d.reprobeCount < 9 →
      exec (.reprobeDue h) s = .next s)

/-- 09, sections 9.3, 9.4 and 9.7: a transfer starts when the string is free and no switch waits: in the
first group after the last served one that has a head to serve, led by its first pending head, with every
member whose next command has the leading head's timing. A reachable head's next command is for its first
want; 09, section 9.6: a head whose kind is known and is not its loop's is not driven. (That a transfer starts
at its own row is log entry 10; that a drive want made before is held back meanwhile is log entry 32.) -/
def Obligations.TransferStarts : Prop :=
  ∀ s : State, s.atRest →
    (s.string.transfer ≠ none ∨ s.string.broadcast ≠ none ∨ s.string.monitor ≠ .good ∨
        (∃ t, s.string.requested = some t ∧ t ≠ s.string.timing) ∨ (∀ h, s.ready h = false) →
      exec .transferStart s = .next s) ∧
    (s.string.transfer = none → s.string.broadcast = none → s.string.monitor = .good →
      (s.string.requested = none ∨ s.string.requested = some s.string.timing) →
      ∀ (leader : Fin 16) (c : HeadCommand) (timing : Timing),
        let after := fun h : Fin 16 => (h.val + 3 - s.string.lastGroup.val) % 4
        (∀ h, s.ready h = true → after leader ≤ after h) →
        s.string.order.find? (fun h => h.val % 4 == leader.val % 4 && s.ready h) = some leader →
        s.nextCommand leader = some (c, timing) →
        ∃ (t : State) (x : Transfer), exec .transferStart s = .next t ∧
          x.group.val = leader.val % 4 ∧ x.head = leader ∧ x.command = c ∧ x.sentAt = timing ∧
          x.void = false ∧
          x.rest = [leader + 4, leader + 8, leader + 12].filter (s.pendingAt timing) ∧
          t = { s with heads := t.heads, string := { s.string with transfer := some x } } ∧
          (∀ j, j ≠ leader ∨ c ≠ .reprobe → t.heads.get j = s.heads.get j) ∧
          (c = .reprobe → (t.heads.get leader).reprobeTiming =
            match (s.heads.get leader).reprobeTiming with | .basic => .fast | .fast => .basic)) ∧
    ∀ h,
      let d := s.heads.get h
      let w := d.wants
      let at' := fun c : HeadCommand => s.nextCommand h = some (c, d.timing.getD .basic)
      d.unreachable = false → d.misses ≠ 2 →
      (w.timing = true → at' (.setTiming s.string.timing)) ∧
      (w.timing = false → w.close = some .motor → at' (.move 0 true)) ∧
      (w.timing = false → w.close = some .thermal → at' (.switch false true)) ∧
      (w.timing = false → w.close = none → (w.probe || w.poll || w.reprobe) = true → at' .probe) ∧
      (w.timing = false → w.close = none → (w.probe || w.poll || w.reprobe) = false → w.drive = true →
        (∀ k, d.kind = some k → s.boundKind h ≠ some k → s.nextCommand h = none) ∧
        ∀ v, d.commanded = some v → (d.kind = none ∨ d.kind = s.boundKind h) →
          (s.boundKind h = some .motor → at' (.move v false)) ∧
          (s.boundKind h = some .thermal → at' (.switch (v != 0) false)))

/-- 09, sections 9.3 to 9.6 and 9.9; 06, section 6.5; 10, section 10.4: an answer in its window, for the last
member of a transfer. An answer at another timing has the head re-switched once. A MOVE or SWITCH answered by
the head's own kind is acknowledged: a travel starts, or a GRANTED record is WARMING. An answered close ends the
close want, and leaves the head of an unbound loop alone. A SET-TIMING answered with the string timing is to be
confirmed by a PROBE, which clears the mark. A PROBE, a mismatch probe or a re-probe gives kind and position; a
wrong kind is a fault, a position near the acknowledged value an arrival, a blocked head elsewhere a stall; an
answered re-probe ends UNREACHABLE and releases the loop, whose drive is judged afresh. An answer that no open
window awaits is ignored; one to a transfer made void by a RESTART only ends it. (That one PROBE answer ends
probe, poll and re-probe is log entry 19, the bit of the confirming PROBE log entry 27, the last served group
after a void transfer log entry 40; that the answer ends a void transfer is log entry 44, that an answered close
drops the other wants of an unbound loop's head log entry 45, that it ends a close want of another kind made
meanwhile log entry 39, and that a head both at its value and blocked has arrived log entry 49.) -/
def Obligations.HeadAnswers : Prop :=
  ∀ (s : State) (h : Fin 16) (a : HeadAnswer), s.atRest →
    (s.string.transfer = none → exec (.headAnswer h a) s = .next s) ∧
    ∀ x : Transfer, s.string.transfer = some x →
      let d := s.heads.get h
      let w := d.wants
      let l := s.loops.get h
      let met := { d with misses := 0, present := true, unreachable := false, timing := some x.sentAt }
      let ended := fun t : State =>
        { s.string with transfer := none, lastGroup := x.group, order := t.string.order }
      let others := fun t : State => ∀ j, j ≠ h → t.heads.get j = s.heads.get j
      let probing := x.command ∈ [.probe, .mismatchProbe, .reprobe]
      let probed := fun (k : HeadKind) (p : Fin 1001) =>
        { met with
          kind := some k, position := some (p.val : Int), confirming := false
          reswitched := if x.sentAt = s.string.timing then d.reswitched && !d.confirming else true
          wants := { w with
            probe := false, poll := false, reprobe := false
            timing := w.timing || (decide (x.sentAt ≠ s.string.timing) && !d.reswitched) } }
      (x.head ≠ h → exec (.headAnswer h a) s = .next s) ∧
      (x.head = h → x.void = false → x.rest = [] → x.sentAt ≠ s.string.timing →
        answers x.command a = true → (∀ t, x.command ≠ .setTiming t) → s.bound h = true →
        ∃ t, exec (.headAnswer h a) s = .next t ∧ (t.heads.get h).timing = some x.sentAt ∧
          (t.heads.get h).misses = 0 ∧ (t.heads.get h).reswitched = true ∧
          (t.heads.get h).wants.timing = (w.timing || !d.reswitched)) ∧
      (x.head = h → x.void = false → x.rest = [] →
        l.reason ≠ some .head → s.exercise.current = none → d.unreachable = false →
        (∀ v, x.command = .move v false → a = .accepted .motor → s.boundKind h = some .motor →
          x.sentAt = s.string.timing → d.commanded = some v → ∃ t, exec (.headAnswer h a) s = .next t ∧
            t = { s with heads := t.heads, string := ended t } ∧ others t ∧
            t.heads.get h = { met with
              kind := some .motor, acked := some v, moving := some 0
              wants := { w with drive := false } }) ∧
        (∀ on, x.command = .switch on false → a = .accepted .thermal → s.boundKind h = some .thermal →
          x.sentAt = s.string.timing → d.commanded = some (if on then 1000 else 0) →
          ∃ t, exec (.headAnswer h a) s = .next t ∧
            t = { s with
              heads := t.heads, string := ended t
              modulator := { s.modulator with recs := t.modulator.recs } } ∧ others t ∧
            t.heads.get h = { met with
              kind := some .thermal, acked := some (if on then 1000 else 0)
              wants := { w with drive := false } } ∧
            (∀ j, j ≠ h → t.modulator.recs.get j = s.modulator.recs.get j) ∧
            ∀ m, s.modulator.recs.get h = some m → t.modulator.recs.get h =
              if on = true ∧ m.state = .granted then some { m with state := .warming, warmCount := 0 }
              else some m) ∧
        (∀ k k', (x.command = .move 0 true ∧ k' = .motor ∨ x.command = .switch false true ∧ k' = .thermal) →
          a = .accepted k → x.sentAt = s.string.timing → ∃ t, exec (.headAnswer h a) s = .next t ∧
            others t ∧ t.string = ended t ∧
            (s.bound h = false → t.heads.get h = { met with
              kind := some k, acked := if k = k' then some 0 else d.acked, commanded := none
              wants := .nothing }) ∧
            (s.bound h = true → t.heads.get h = { met with
              kind := some k, acked := if k = k' then some 0 else d.acked
              wants := { w with
                close := none, drive := (t.heads.get h).wants.drive
                poll := (t.heads.get h).wants.poll } })) ∧
        (∀ τ τ', x.command = .setTiming τ → a = .retimed τ' → ∃ t, exec (.headAnswer h a) s = .next t ∧
            t = { s with heads := t.heads, string := ended t } ∧ others t ∧
            t.heads.get h = { met with
              timing := some τ', confirming := d.confirming || τ' == s.string.timing
              wants := { w with timing := false, probe := w.probe || τ' == s.string.timing } }) ∧
        (∀ k p b, probing → a = .probed k p b → d.moving = none →
          (s.boundKind h = none ∨ s.boundKind h = some k) → ∃ t, exec (.headAnswer h a) s = .next t ∧
            t = { s with heads := t.heads, string := ended t } ∧ others t ∧
            t.heads.get h = probed k p) ∧
        (∀ p b n v, probing → a = .probed .motor p b → d.moving = some n →
          s.boundKind h = some .motor → w.drive = false →
          d.acked = some v → -10 ≤ (p.val : Int) - v → (p.val : Int) - v ≤ 10 →
          ∃ t, exec (.headAnswer h a) s = .next t ∧
            t = { s with heads := t.heads, loops := t.loops, string := ended t } ∧ others t ∧
            t.heads.get h = { probed .motor p with moving := none } ∧
            t.loops.get h = { l with settled := true } ∧
            ∀ j, j ≠ h → t.loops.get j = s.loops.get j) ∧
        (∀ p n v, probing → a = .probed .motor p true → d.moving = some n →
          s.boundKind h = some .motor → d.acked = some v →
          ((p.val : Int) - v < -10 ∨ 10 < (p.val : Int) - v) →
          l.state ∈ [.closed, .opening, .open, .held] →
          ∃ t, exec (.headAnswer h a) s = .next t ∧ (t.heads.get h).moving = none ∧
            (t.loops.get h).state = .fault ∧ (t.loops.get h).reason = some .stall ∧
            t.flagged .headFault h.val p.val ∧ flagsKept [.headFault] s t) ∧
        (∀ k k' p b, probing → a = .probed k p b → s.boundKind h = some k' → k ≠ k' →
          d.moving = none → l.state ∈ [.closed, .opening, .open, .held] →
          ∃ t, exec (.headAnswer h a) s = .next t ∧
            (t.loops.get h).state = .fault ∧ (t.loops.get h).reason = some .kind ∧
            (t.loops.get h).o = 0 ∧ (t.heads.get h).kind = some k ∧
            t.flagged .kindMismatch h.val (256 * kindCode (some k) + kindCode (some k')) ∧
            flagsKept [.kindMismatch] s t)) ∧
      (x.head = h → x.void = false → x.rest = [] → d.unreachable = true → d.moving = none →
        d.acked = none → l.state = .fault → l.reason = some .head →
        ∀ k p b, probing → a = .probed k p b → s.boundKind h = some k →
          ∃ t, exec (.headAnswer h a) s = .next t ∧
            t.heads.get h = { probed k p with
              commanded := (t.heads.get h).commanded
              wants := { (probed k p).wants with drive := (t.heads.get h).wants.drive } } ∧
            t.loops.get h = { l with
              state := .closed, reason := none, hold := none, o := 0
              settled := (t.loops.get h).settled } ∧
            (k = .motor → (t.heads.get h).commanded = some 0) ∧
            ((t.heads.get h).commanded ≠ none → (t.heads.get h).wants.drive = true)) ∧
      (x.head = h → x.void = true → answers x.command a = true →
        ∃ t, exec (.headAnswer h a) s = .next t ∧ t = { s with string := ended t })

/-- 09, section 9.5; 06, section 6.5: the window of the last member of a transfer ends with no answer. The
first miss notes the command, the second its timing; the third makes the head UNREACHABLE without wants,
sets HEAD_FAULT, and puts the loop, unless it is UNBOUND, in FAULT with reason HEAD and O 0, and one that was
in EXERCISE has the next turn taken. (That a re-probe want ends with its miss is log entry 19, that a window
that ends with no such command in flight has no effect log entry 11, the last served group after a void
transfer log entry 40.) -/
def Obligations.AnswerWindowEnds : Prop :=
  ∀ (s : State) (h : Fin 16), s.atRest → s.loopsOk →
    (s.string.transfer = none → exec (.answerWindowEnd h) s = .next s) ∧
    ∀ x : Transfer, s.string.transfer = some x →
      let d := s.heads.get h
      let code := match x.command with
        | .move _ _ => 1 | .switch _ _ => 2 | .probe => 3 | .reprobe => 3 | .mismatchProbe => 3
        | .setTiming _ => 4
      let ended := fun t : State =>
        { s.string with transfer := none, lastGroup := x.group, order := t.string.order }
      let others := fun t : State => ∀ j, j ≠ h → t.heads.get j = s.heads.get j
      (x.head ≠ h → exec (.answerWindowEnd h) s = .next s) ∧
      (x.head = h → x.void = false → x.rest = [] →
        (d.unreachable = false → d.misses ≤ 1 → ∃ t, exec (.answerWindowEnd h) s = .next t ∧
          t = { s with heads := t.heads, string := ended t } ∧ others t ∧
          t.heads.get h = if d.misses = 0 then { d with misses := 1, firstMiss := code }
            else { d with misses := 2, missTiming := x.sentAt }) ∧
        (d.unreachable = false → 2 ≤ d.misses →
          ∃ t, exec (.answerWindowEnd h) s = .next t ∧
            (t.heads.get h).unreachable = true ∧ (t.heads.get h).misses = 0 ∧
            (t.heads.get h).acked = none ∧ (t.heads.get h).moving = none ∧
            (t.heads.get h).wants = .nothing ∧ (t.heads.get h).reprobeCount = 0 ∧
            t.flagged .headFault h.val (256 * 255 + d.firstMiss) ∧ flagsKept [.headFault] s t ∧
            (s.bound h = true → (t.loops.get h).state = .fault ∧
              (t.loops.get h).reason = some .head ∧ (t.loops.get h).b = (s.loops.get h).b) ∧
            (s.bound h = true → (s.loops.get h).reason ≠ some .head → (t.loops.get h).o = 0) ∧
            ((s.loops.get h).state = .exercise → s.turnTaken t h s.exercise.list)) ∧
        (d.unreachable = true → x.command = .reprobe → ∃ t, exec (.answerWindowEnd h) s = .next t ∧
          t = { s with heads := t.heads, string := ended t } ∧ others t ∧
          t.heads.get h = { d with wants := { d.wants with reprobe := false } })) ∧
      (x.head = h → x.void = true →
        ∃ t, exec (.answerWindowEnd h) s = .next t ∧ t = { s with string := ended t })

/-- 09, section 9.7: a requested switch begins with its broadcast when nothing is on the string; when the
broadcast has been sent the new timing holds, re-switch marks are gone, and every head that is present and
reachable is taken to run at the new timing and is to be probed. (That a switch begins at its own row is
log entry 10; that a request for the timing that now holds is met is log entry 25; that the switch ends an
unfinished confirmation is log entry 27; that a completion without a broadcast has no effect is log entry 11;
that the head of an unbound loop is to be probed too is log entry 51.) -/
def Obligations.TimingSwitches : Prop :=
  ∀ s : State, s.atRest →
    (∀ t, s.string.requested = some t → t ≠ s.string.timing → s.string.transfer = none →
      s.string.broadcast = none → s.string.monitor = .good →
      exec .timingSwitchBegin s = .next { s with
        string := { s.string with requested := none, broadcast := some t } }) ∧
    (s.string.requested = none ∨ s.string.requested = some s.string.timing ∨
        s.string.transfer ≠ none ∨ s.string.broadcast ≠ none ∨ s.string.monitor ≠ .good →
      exec .timingSwitchBegin s = .next s) ∧
    (∀ timing, s.string.broadcast = some timing → ∃ t, exec .timingBroadcastComplete s = .next t ∧
      t = { s with
        heads := t.heads
        string := { s.string with
          timing := timing, broadcast := none, order := t.string.order
          requested := if s.string.requested = some timing then none else s.string.requested } } ∧
      ∀ h,
        let d := { s.heads.get h with reswitched := false, confirming := false }
        t.heads.get h = if d.present = true ∧ d.unreachable = false then
          { d with timing := some timing, wants := { d.wants with probe := true } } else d) ∧
    (s.string.broadcast = none → exec .timingBroadcastComplete s = .next s)

/-- 09, section 9.8: a dip of the string supply suspends the driver and aborts what is on the string,
keeping the interrupted head and, unless a newer request is there, the aborted switch; a rise leads to
RECOVERING and its end to GOOD, when the interrupted head, or the next pending head of its group, leads the
resumed transfer. A suspension of 60 s makes the acknowledged values of the heads that are present and
reachable unknown, so that each of them with a commanded value and the right kind holds a drive want, and sets
STRING_SUPPLY with the number of heads whose commands are pending again. (The newer request is log entry 25,
the single passing of 60 s log entry 13, the number in the detail log entry 32, and a rise, an end or a long dip
that the monitor does not await log entry 11.) -/
def Obligations.StringSupply : Prop :=
  ∀ s : State, s.atRest →
    (s.string.monitor = .good → ∃ t, exec .stringSupplyDip s = .next t ∧
      t = { s with string := { s.string with
        monitor := .dip, longDip := false, transfer := none, broadcast := none
        resume := s.string.transfer.map Transfer.head
        requested := match s.string.requested with
          | some t => some t
          | none => s.string.broadcast
        order := t.string.order } }) ∧
    (s.string.monitor ≠ .good →
      exec .stringSupplyDip s = .next { s with string := { s.string with monitor := .dip } }) ∧
    (s.string.monitor = .dip →
      exec .stringSupplyRise s = .next { s with string := { s.string with monitor := .recovering } }) ∧
    (s.string.monitor ≠ .dip → exec .stringSupplyRise s = .next s) ∧
    (s.string.monitor = .recovering → s.string.resume = none →
      exec .stringSupplyGood s = .next { s with
        string := { s.string with monitor := .good, longDip := false } }) ∧
    (∀ h, s.string.monitor = .recovering → s.string.resume = some h → s.string.transfer = none →
      let members := [h, h + 4, h + 8, h + 12]
      let good := { s.string with monitor := .good, longDip := false, resume := none }
      ((∀ j ∈ members, s.ready j = false) →
        exec .stringSupplyGood s = .next { s with string := good }) ∧
      ∀ (before after : List (Fin 16)) (j : Fin 16) (c : HeadCommand) (timing : Timing),
        members = before ++ j :: after → (∀ k ∈ before, s.ready k = false) → s.ready j = true →
        s.nextCommand j = some (c, timing) →
        ∃ (t : State) (x : Transfer), exec .stringSupplyGood s = .next t ∧
          x.group.val = h.val % 4 ∧ x.head = j ∧ x.command = c ∧ x.sentAt = timing ∧ x.void = false ∧
          x.rest = [j + 4, j + 8, j + 12].filter (s.pendingAt timing) ∧
          t = { s with heads := t.heads, string := { good with transfer := some x } } ∧
          (∀ k, k ≠ j ∨ c ≠ .reprobe → t.heads.get k = s.heads.get k)) ∧
    (s.string.monitor ≠ .recovering → exec .stringSupplyGood s = .next s) ∧
    (s.string.monitor = .good ∨ s.string.longDip = true → exec .longDip s = .next s) ∧
    (s.string.monitor ≠ .good → s.string.longDip = false → ∃ t, exec .longDip s = .next t ∧
      t = { s with heads := t.heads, loops := t.loops, ring := t.ring, flags := t.flags
                   string := { s.string with longDip := true, order := t.string.order } } ∧
      noticesOnly s t ∧ flagsKept [.stringSupply] s t ∧
      t.flagged .stringSupply 255
        (t.heads.toList.countP fun d => d.present && !d.unreachable && d.wants.drive) ∧
      ∀ h, (t.heads.get h).commanded = (s.heads.get h).commanded ∧
        if (s.heads.get h).present = true ∧ (s.heads.get h).unreachable = false then
          (t.heads.get h).acked = none ∧ (t.heads.get h).moving = none ∧
            ((t.heads.get h).wants.drive = true ↔ (s.heads.get h).wants.drive = true ∨
              (s.heads.get h).commanded ≠ none ∧ ∃ k, s.boundKind h = some k ∧
                ((s.heads.get h).kind = none ∨ (s.heads.get h).kind = some k))
        else (t.heads.get h).acked = (s.heads.get h).acked ∧
          (t.heads.get h).moving = (s.heads.get h).moving)
end

