-- ==== Sys2Proof/Laws/Tab.lean ====
section
/-! SUPPORT. Reading a table after each of its operations. -/

namespace Sys2Proof.Machine

variable {n : Nat} {α β : Type}

/-- The record at an index is the list's element there. -/
theorem Tab.get_eq (t : Tab n α) (i : Fin n) :
    t.get i = t.toList[i.val]'(by rw [t.len]; exact i.isLt) := by
  simp [Tab.get, List.get_eq_getElem]

@[simp] theorem Tab.get_set_self (t : Tab n α) (i : Fin n) (a : α) : (t.set i a).get i = a := by
  simp [Tab.get_eq, Tab.set]

theorem Tab.get_set_ne (t : Tab n α) {i j : Fin n} (h : i ≠ j) (a : α) :
    (t.set i a).get j = t.get j := by
  have hv : i.val ≠ j.val := fun e => h (Fin.ext e)
  simp [Tab.get_eq, Tab.set, hv]

theorem Tab.get_set (t : Tab n α) (i j : Fin n) (a : α) :
    (t.set i a).get j = if i = j then a else t.get j := by
  by_cases h : i = j
  · subst h; simp
  · simp [h, Tab.get_set_ne t h]

@[simp] theorem Tab.get_modify_self (t : Tab n α) (i : Fin n) (f : α → α) :
    (t.modify i f).get i = f (t.get i) := by simp [Tab.modify]

theorem Tab.get_modify_ne (t : Tab n α) {i j : Fin n} (h : i ≠ j) (f : α → α) :
    (t.modify i f).get j = t.get j := by simp [Tab.modify, Tab.get_set_ne t h]

theorem Tab.get_modify (t : Tab n α) (i j : Fin n) (f : α → α) :
    (t.modify i f).get j = if i = j then f (t.get i) else t.get j := by
  simp [Tab.modify, Tab.get_set]

@[simp] theorem Tab.get_map (f : α → β) (t : Tab n α) (i : Fin n) : (t.map f).get i = f (t.get i) := by
  simp [Tab.get_eq, Tab.map]

@[simp] theorem Tab.get_ofFn (f : Fin n → α) (i : Fin n) : (Tab.ofFn f).get i = f i := by
  simp [Tab.get_eq, Tab.ofFn]

@[simp] theorem Tab.get_mapIdx (f : Fin n → α → β) (t : Tab n α) (i : Fin n) :
    (t.mapIdx f).get i = f i (t.get i) := by simp [Tab.mapIdx]

@[simp] theorem Tab.get_fill (a : α) (i : Fin n) : (Tab.fill a).get i = a := by
  simp [Tab.get_eq, Tab.fill]

/-- Two tables with the same records are equal. -/
theorem Tab.ext_get {t u : Tab n α} (h : ∀ i, t.get i = u.get i) : t = u := by
  obtain ⟨l, hl⟩ := t
  obtain ⟨m, hm⟩ := u
  have : l = m := by
    apply List.ext_getElem (hl.trans hm.symm)
    intro k hk _
    have := h ⟨k, hl ▸ hk⟩
    simpa [Tab.get_eq] using this
  subst this; rfl

/-- The records of a table are the values of `get`. -/
theorem Tab.mem_toList {t : Tab n α} {a : α} : a ∈ t.toList ↔ ∃ i, t.get i = a := by
  constructor
  · intro h
    obtain ⟨k, hk, rfl⟩ := List.getElem_of_mem h
    exact ⟨⟨k, t.len ▸ hk⟩, by simp [Tab.get_eq]⟩
  · rintro ⟨i, rfl⟩
    simp [Tab.get_eq]

/-- A test holds of some record. -/
theorem Tab.any_iff {t : Tab n α} {p : α → Bool} : t.any p = true ↔ ∃ i, p (t.get i) = true := by
  simp only [Tab.any, List.any_eq_true, Tab.mem_toList]
  constructor
  · rintro ⟨_, ⟨i, rfl⟩, h⟩; exact ⟨i, h⟩
  · rintro ⟨i, h⟩; exact ⟨_, ⟨i, rfl⟩, h⟩

/-- No record satisfies the test. -/
theorem Tab.count_eq_zero {t : Tab n α} {p : α → Bool} :
    t.count p = 0 ↔ ∀ i, p (t.get i) = false := by
  simp only [Tab.count, List.countP_eq_zero, Tab.mem_toList]
  constructor
  · intro h i; simpa using h _ ⟨i, rfl⟩
  · rintro h _ ⟨i, rfl⟩; simpa using h i

/-- The index that a search finds satisfies the test. -/
theorem Tab.find_some {t : Tab n α} {p : α → Bool} {i : Fin n} (h : t.find p = some i) :
    p (t.get i) = true := by simpa using List.find?_some h

/-- A search that finds nothing. -/
theorem Tab.find_none {t : Tab n α} {p : α → Bool} :
    t.find p = none ↔ ∀ i, p (t.get i) = false := by
  simp [Tab.find, List.find?_eq_none]

end Sys2Proof.Machine
end

