-- ==== Sys2Proof/Laws/State.lean ====
section
/-! SUPPORT. What the updates of one record, and the operations of the ring port and the notice unit,
leave alone: one lemma per update and field, true by unfolding. -/

namespace Sys2Proof.Machine

variable (s : State)

@[simp] theorem State.setLoop_pending (i : Fin 16) (f : LoopRec → LoopRec) : (s.setLoop i f).pending = s.pending := rfl
@[simp] theorem State.setLoop_ring (i : Fin 16) (f : LoopRec → LoopRec) : (s.setLoop i f).ring = s.ring := rfl
@[simp] theorem State.setLoop_mode (i : Fin 16) (f : LoopRec → LoopRec) : (s.setLoop i f).mode = s.mode := rfl
@[simp] theorem State.setLoop_startRounds (i : Fin 16) (f : LoopRec → LoopRec) : (s.setLoop i f).startRounds = s.startRounds := rfl
@[simp] theorem State.setLoop_interval (i : Fin 16) (f : LoopRec → LoopRec) : (s.setLoop i f).interval = s.interval := rfl
@[simp] theorem State.setLoop_store (i : Fin 16) (f : LoopRec → LoopRec) : (s.setLoop i f).store = s.store := rfl
@[simp] theorem State.setLoop_profile (i : Fin 16) (f : LoopRec → LoopRec) : (s.setLoop i f).profile = s.profile := rfl
@[simp] theorem State.setLoop_binding (i : Fin 16) (f : LoopRec → LoopRec) : (s.setLoop i f).binding = s.binding := rfl
@[simp] theorem State.setLoop_rooms (i : Fin 16) (f : LoopRec → LoopRec) : (s.setLoop i f).rooms = s.rooms := rfl
@[simp] theorem State.setLoop_channels (i : Fin 16) (f : LoopRec → LoopRec) : (s.setLoop i f).channels = s.channels := rfl
@[simp] theorem State.setLoop_converter (i : Fin 16) (f : LoopRec → LoopRec) : (s.setLoop i f).converter = s.converter := rfl
@[simp] theorem State.setLoop_exercise (i : Fin 16) (f : LoopRec → LoopRec) : (s.setLoop i f).exercise = s.exercise := rfl
@[simp] theorem State.setLoop_roundPos (i : Fin 16) (f : LoopRec → LoopRec) : (s.setLoop i f).roundPos = s.roundPos := rfl
@[simp] theorem State.setLoop_interrupted (i : Fin 16) (f : LoopRec → LoopRec) : (s.setLoop i f).interrupted = s.interrupted := rfl
@[simp] theorem State.setLoop_opening (i : Fin 16) (f : LoopRec → LoopRec) : (s.setLoop i f).opening = s.opening := rfl
@[simp] theorem State.setLoop_heads (i : Fin 16) (f : LoopRec → LoopRec) : (s.setLoop i f).heads = s.heads := rfl
@[simp] theorem State.setLoop_string (i : Fin 16) (f : LoopRec → LoopRec) : (s.setLoop i f).string = s.string := rfl
@[simp] theorem State.setLoop_modulator (i : Fin 16) (f : LoopRec → LoopRec) : (s.setLoop i f).modulator = s.modulator := rfl
@[simp] theorem State.setLoop_windows (i : Fin 16) (f : LoopRec → LoopRec) : (s.setLoop i f).windows = s.windows := rfl
@[simp] theorem State.setLoop_flags (i : Fin 16) (f : LoopRec → LoopRec) : (s.setLoop i f).flags = s.flags := rfl

@[simp] theorem State.setHead_pending (i : Fin 16) (f : Head → Head) : (s.setHead i f).pending = s.pending := rfl
@[simp] theorem State.setHead_ring (i : Fin 16) (f : Head → Head) : (s.setHead i f).ring = s.ring := rfl
@[simp] theorem State.setHead_mode (i : Fin 16) (f : Head → Head) : (s.setHead i f).mode = s.mode := rfl
@[simp] theorem State.setHead_startRounds (i : Fin 16) (f : Head → Head) : (s.setHead i f).startRounds = s.startRounds := rfl
@[simp] theorem State.setHead_interval (i : Fin 16) (f : Head → Head) : (s.setHead i f).interval = s.interval := rfl
@[simp] theorem State.setHead_store (i : Fin 16) (f : Head → Head) : (s.setHead i f).store = s.store := rfl
@[simp] theorem State.setHead_profile (i : Fin 16) (f : Head → Head) : (s.setHead i f).profile = s.profile := rfl
@[simp] theorem State.setHead_binding (i : Fin 16) (f : Head → Head) : (s.setHead i f).binding = s.binding := rfl
@[simp] theorem State.setHead_rooms (i : Fin 16) (f : Head → Head) : (s.setHead i f).rooms = s.rooms := rfl
@[simp] theorem State.setHead_channels (i : Fin 16) (f : Head → Head) : (s.setHead i f).channels = s.channels := rfl
@[simp] theorem State.setHead_converter (i : Fin 16) (f : Head → Head) : (s.setHead i f).converter = s.converter := rfl
@[simp] theorem State.setHead_loops (i : Fin 16) (f : Head → Head) : (s.setHead i f).loops = s.loops := rfl
@[simp] theorem State.setHead_exercise (i : Fin 16) (f : Head → Head) : (s.setHead i f).exercise = s.exercise := rfl
@[simp] theorem State.setHead_roundPos (i : Fin 16) (f : Head → Head) : (s.setHead i f).roundPos = s.roundPos := rfl
@[simp] theorem State.setHead_interrupted (i : Fin 16) (f : Head → Head) : (s.setHead i f).interrupted = s.interrupted := rfl
@[simp] theorem State.setHead_opening (i : Fin 16) (f : Head → Head) : (s.setHead i f).opening = s.opening := rfl
@[simp] theorem State.setHead_string (i : Fin 16) (f : Head → Head) : (s.setHead i f).string = s.string := rfl
@[simp] theorem State.setHead_modulator (i : Fin 16) (f : Head → Head) : (s.setHead i f).modulator = s.modulator := rfl
@[simp] theorem State.setHead_windows (i : Fin 16) (f : Head → Head) : (s.setHead i f).windows = s.windows := rfl
@[simp] theorem State.setHead_flags (i : Fin 16) (f : Head → Head) : (s.setHead i f).flags = s.flags := rfl

@[simp] theorem State.setRoom_pending (i : Fin 12) (f : Room → Room) : (s.setRoom i f).pending = s.pending := rfl
@[simp] theorem State.setRoom_ring (i : Fin 12) (f : Room → Room) : (s.setRoom i f).ring = s.ring := rfl
@[simp] theorem State.setRoom_mode (i : Fin 12) (f : Room → Room) : (s.setRoom i f).mode = s.mode := rfl
@[simp] theorem State.setRoom_startRounds (i : Fin 12) (f : Room → Room) : (s.setRoom i f).startRounds = s.startRounds := rfl
@[simp] theorem State.setRoom_interval (i : Fin 12) (f : Room → Room) : (s.setRoom i f).interval = s.interval := rfl
@[simp] theorem State.setRoom_store (i : Fin 12) (f : Room → Room) : (s.setRoom i f).store = s.store := rfl
@[simp] theorem State.setRoom_profile (i : Fin 12) (f : Room → Room) : (s.setRoom i f).profile = s.profile := rfl
@[simp] theorem State.setRoom_binding (i : Fin 12) (f : Room → Room) : (s.setRoom i f).binding = s.binding := rfl
@[simp] theorem State.setRoom_channels (i : Fin 12) (f : Room → Room) : (s.setRoom i f).channels = s.channels := rfl
@[simp] theorem State.setRoom_converter (i : Fin 12) (f : Room → Room) : (s.setRoom i f).converter = s.converter := rfl
@[simp] theorem State.setRoom_loops (i : Fin 12) (f : Room → Room) : (s.setRoom i f).loops = s.loops := rfl
@[simp] theorem State.setRoom_exercise (i : Fin 12) (f : Room → Room) : (s.setRoom i f).exercise = s.exercise := rfl
@[simp] theorem State.setRoom_roundPos (i : Fin 12) (f : Room → Room) : (s.setRoom i f).roundPos = s.roundPos := rfl
@[simp] theorem State.setRoom_interrupted (i : Fin 12) (f : Room → Room) : (s.setRoom i f).interrupted = s.interrupted := rfl
@[simp] theorem State.setRoom_opening (i : Fin 12) (f : Room → Room) : (s.setRoom i f).opening = s.opening := rfl
@[simp] theorem State.setRoom_heads (i : Fin 12) (f : Room → Room) : (s.setRoom i f).heads = s.heads := rfl
@[simp] theorem State.setRoom_string (i : Fin 12) (f : Room → Room) : (s.setRoom i f).string = s.string := rfl
@[simp] theorem State.setRoom_modulator (i : Fin 12) (f : Room → Room) : (s.setRoom i f).modulator = s.modulator := rfl
@[simp] theorem State.setRoom_windows (i : Fin 12) (f : Room → Room) : (s.setRoom i f).windows = s.windows := rfl
@[simp] theorem State.setRoom_flags (i : Fin 12) (f : Room → Room) : (s.setRoom i f).flags = s.flags := rfl

@[simp] theorem State.setChannel_pending (i : Fin 18) (f : Channel → Channel) : (s.setChannel i f).pending = s.pending := rfl
@[simp] theorem State.setChannel_ring (i : Fin 18) (f : Channel → Channel) : (s.setChannel i f).ring = s.ring := rfl
@[simp] theorem State.setChannel_mode (i : Fin 18) (f : Channel → Channel) : (s.setChannel i f).mode = s.mode := rfl
@[simp] theorem State.setChannel_startRounds (i : Fin 18) (f : Channel → Channel) : (s.setChannel i f).startRounds = s.startRounds := rfl
@[simp] theorem State.setChannel_interval (i : Fin 18) (f : Channel → Channel) : (s.setChannel i f).interval = s.interval := rfl
@[simp] theorem State.setChannel_store (i : Fin 18) (f : Channel → Channel) : (s.setChannel i f).store = s.store := rfl
@[simp] theorem State.setChannel_profile (i : Fin 18) (f : Channel → Channel) : (s.setChannel i f).profile = s.profile := rfl
@[simp] theorem State.setChannel_binding (i : Fin 18) (f : Channel → Channel) : (s.setChannel i f).binding = s.binding := rfl
@[simp] theorem State.setChannel_rooms (i : Fin 18) (f : Channel → Channel) : (s.setChannel i f).rooms = s.rooms := rfl
@[simp] theorem State.setChannel_converter (i : Fin 18) (f : Channel → Channel) : (s.setChannel i f).converter = s.converter := rfl
@[simp] theorem State.setChannel_loops (i : Fin 18) (f : Channel → Channel) : (s.setChannel i f).loops = s.loops := rfl
@[simp] theorem State.setChannel_exercise (i : Fin 18) (f : Channel → Channel) : (s.setChannel i f).exercise = s.exercise := rfl
@[simp] theorem State.setChannel_roundPos (i : Fin 18) (f : Channel → Channel) : (s.setChannel i f).roundPos = s.roundPos := rfl
@[simp] theorem State.setChannel_interrupted (i : Fin 18) (f : Channel → Channel) : (s.setChannel i f).interrupted = s.interrupted := rfl
@[simp] theorem State.setChannel_opening (i : Fin 18) (f : Channel → Channel) : (s.setChannel i f).opening = s.opening := rfl
@[simp] theorem State.setChannel_heads (i : Fin 18) (f : Channel → Channel) : (s.setChannel i f).heads = s.heads := rfl
@[simp] theorem State.setChannel_string (i : Fin 18) (f : Channel → Channel) : (s.setChannel i f).string = s.string := rfl
@[simp] theorem State.setChannel_modulator (i : Fin 18) (f : Channel → Channel) : (s.setChannel i f).modulator = s.modulator := rfl
@[simp] theorem State.setChannel_windows (i : Fin 18) (f : Channel → Channel) : (s.setChannel i f).windows = s.windows := rfl
@[simp] theorem State.setChannel_flags (i : Fin 18) (f : Channel → Channel) : (s.setChannel i f).flags = s.flags := rfl

@[simp] theorem State.setWindow_pending (i : Fin 8) (f : Window → Window) : (s.setWindow i f).pending = s.pending := rfl
@[simp] theorem State.setWindow_ring (i : Fin 8) (f : Window → Window) : (s.setWindow i f).ring = s.ring := rfl
@[simp] theorem State.setWindow_mode (i : Fin 8) (f : Window → Window) : (s.setWindow i f).mode = s.mode := rfl
@[simp] theorem State.setWindow_startRounds (i : Fin 8) (f : Window → Window) : (s.setWindow i f).startRounds = s.startRounds := rfl
@[simp] theorem State.setWindow_interval (i : Fin 8) (f : Window → Window) : (s.setWindow i f).interval = s.interval := rfl
@[simp] theorem State.setWindow_store (i : Fin 8) (f : Window → Window) : (s.setWindow i f).store = s.store := rfl
@[simp] theorem State.setWindow_profile (i : Fin 8) (f : Window → Window) : (s.setWindow i f).profile = s.profile := rfl
@[simp] theorem State.setWindow_binding (i : Fin 8) (f : Window → Window) : (s.setWindow i f).binding = s.binding := rfl
@[simp] theorem State.setWindow_rooms (i : Fin 8) (f : Window → Window) : (s.setWindow i f).rooms = s.rooms := rfl
@[simp] theorem State.setWindow_channels (i : Fin 8) (f : Window → Window) : (s.setWindow i f).channels = s.channels := rfl
@[simp] theorem State.setWindow_converter (i : Fin 8) (f : Window → Window) : (s.setWindow i f).converter = s.converter := rfl
@[simp] theorem State.setWindow_loops (i : Fin 8) (f : Window → Window) : (s.setWindow i f).loops = s.loops := rfl
@[simp] theorem State.setWindow_exercise (i : Fin 8) (f : Window → Window) : (s.setWindow i f).exercise = s.exercise := rfl
@[simp] theorem State.setWindow_roundPos (i : Fin 8) (f : Window → Window) : (s.setWindow i f).roundPos = s.roundPos := rfl
@[simp] theorem State.setWindow_interrupted (i : Fin 8) (f : Window → Window) : (s.setWindow i f).interrupted = s.interrupted := rfl
@[simp] theorem State.setWindow_opening (i : Fin 8) (f : Window → Window) : (s.setWindow i f).opening = s.opening := rfl
@[simp] theorem State.setWindow_heads (i : Fin 8) (f : Window → Window) : (s.setWindow i f).heads = s.heads := rfl
@[simp] theorem State.setWindow_string (i : Fin 8) (f : Window → Window) : (s.setWindow i f).string = s.string := rfl
@[simp] theorem State.setWindow_modulator (i : Fin 8) (f : Window → Window) : (s.setWindow i f).modulator = s.modulator := rfl
@[simp] theorem State.setWindow_flags (i : Fin 8) (f : Window → Window) : (s.setWindow i f).flags = s.flags := rfl

@[simp] theorem State.setRec_pending (i : Fin 16) (r : Option ModRec) : (s.setRec i r).pending = s.pending := rfl
@[simp] theorem State.setRec_ring (i : Fin 16) (r : Option ModRec) : (s.setRec i r).ring = s.ring := rfl
@[simp] theorem State.setRec_mode (i : Fin 16) (r : Option ModRec) : (s.setRec i r).mode = s.mode := rfl
@[simp] theorem State.setRec_startRounds (i : Fin 16) (r : Option ModRec) : (s.setRec i r).startRounds = s.startRounds := rfl
@[simp] theorem State.setRec_interval (i : Fin 16) (r : Option ModRec) : (s.setRec i r).interval = s.interval := rfl
@[simp] theorem State.setRec_store (i : Fin 16) (r : Option ModRec) : (s.setRec i r).store = s.store := rfl
@[simp] theorem State.setRec_profile (i : Fin 16) (r : Option ModRec) : (s.setRec i r).profile = s.profile := rfl
@[simp] theorem State.setRec_binding (i : Fin 16) (r : Option ModRec) : (s.setRec i r).binding = s.binding := rfl
@[simp] theorem State.setRec_rooms (i : Fin 16) (r : Option ModRec) : (s.setRec i r).rooms = s.rooms := rfl
@[simp] theorem State.setRec_channels (i : Fin 16) (r : Option ModRec) : (s.setRec i r).channels = s.channels := rfl
@[simp] theorem State.setRec_converter (i : Fin 16) (r : Option ModRec) : (s.setRec i r).converter = s.converter := rfl
@[simp] theorem State.setRec_loops (i : Fin 16) (r : Option ModRec) : (s.setRec i r).loops = s.loops := rfl
@[simp] theorem State.setRec_exercise (i : Fin 16) (r : Option ModRec) : (s.setRec i r).exercise = s.exercise := rfl
@[simp] theorem State.setRec_roundPos (i : Fin 16) (r : Option ModRec) : (s.setRec i r).roundPos = s.roundPos := rfl
@[simp] theorem State.setRec_interrupted (i : Fin 16) (r : Option ModRec) : (s.setRec i r).interrupted = s.interrupted := rfl
@[simp] theorem State.setRec_opening (i : Fin 16) (r : Option ModRec) : (s.setRec i r).opening = s.opening := rfl
@[simp] theorem State.setRec_heads (i : Fin 16) (r : Option ModRec) : (s.setRec i r).heads = s.heads := rfl
@[simp] theorem State.setRec_string (i : Fin 16) (r : Option ModRec) : (s.setRec i r).string = s.string := rfl
@[simp] theorem State.setRec_windows (i : Fin 16) (r : Option ModRec) : (s.setRec i r).windows = s.windows := rfl
@[simp] theorem State.setRec_flags (i : Fin 16) (r : Option ModRec) : (s.setRec i r).flags = s.flags := rfl

@[simp] theorem State.setQueue_pending (q : List (Fin 16)) : (s.setQueue q).pending = s.pending := rfl
@[simp] theorem State.setQueue_ring (q : List (Fin 16)) : (s.setQueue q).ring = s.ring := rfl
@[simp] theorem State.setQueue_mode (q : List (Fin 16)) : (s.setQueue q).mode = s.mode := rfl
@[simp] theorem State.setQueue_startRounds (q : List (Fin 16)) : (s.setQueue q).startRounds = s.startRounds := rfl
@[simp] theorem State.setQueue_interval (q : List (Fin 16)) : (s.setQueue q).interval = s.interval := rfl
@[simp] theorem State.setQueue_store (q : List (Fin 16)) : (s.setQueue q).store = s.store := rfl
@[simp] theorem State.setQueue_profile (q : List (Fin 16)) : (s.setQueue q).profile = s.profile := rfl
@[simp] theorem State.setQueue_binding (q : List (Fin 16)) : (s.setQueue q).binding = s.binding := rfl
@[simp] theorem State.setQueue_rooms (q : List (Fin 16)) : (s.setQueue q).rooms = s.rooms := rfl
@[simp] theorem State.setQueue_channels (q : List (Fin 16)) : (s.setQueue q).channels = s.channels := rfl
@[simp] theorem State.setQueue_converter (q : List (Fin 16)) : (s.setQueue q).converter = s.converter := rfl
@[simp] theorem State.setQueue_loops (q : List (Fin 16)) : (s.setQueue q).loops = s.loops := rfl
@[simp] theorem State.setQueue_exercise (q : List (Fin 16)) : (s.setQueue q).exercise = s.exercise := rfl
@[simp] theorem State.setQueue_roundPos (q : List (Fin 16)) : (s.setQueue q).roundPos = s.roundPos := rfl
@[simp] theorem State.setQueue_interrupted (q : List (Fin 16)) : (s.setQueue q).interrupted = s.interrupted := rfl
@[simp] theorem State.setQueue_opening (q : List (Fin 16)) : (s.setQueue q).opening = s.opening := rfl
@[simp] theorem State.setQueue_heads (q : List (Fin 16)) : (s.setQueue q).heads = s.heads := rfl
@[simp] theorem State.setQueue_string (q : List (Fin 16)) : (s.setQueue q).string = s.string := rfl
@[simp] theorem State.setQueue_windows (q : List (Fin 16)) : (s.setQueue q).windows = s.windows := rfl
@[simp] theorem State.setQueue_flags (q : List (Fin 16)) : (s.setQueue q).flags = s.flags := rfl

@[simp] theorem State.leaveOrder_pending (h : Fin 16) : (s.leaveOrder h).pending = s.pending := rfl
@[simp] theorem State.leaveOrder_ring (h : Fin 16) : (s.leaveOrder h).ring = s.ring := rfl
@[simp] theorem State.leaveOrder_mode (h : Fin 16) : (s.leaveOrder h).mode = s.mode := rfl
@[simp] theorem State.leaveOrder_startRounds (h : Fin 16) : (s.leaveOrder h).startRounds = s.startRounds := rfl
@[simp] theorem State.leaveOrder_interval (h : Fin 16) : (s.leaveOrder h).interval = s.interval := rfl
@[simp] theorem State.leaveOrder_store (h : Fin 16) : (s.leaveOrder h).store = s.store := rfl
@[simp] theorem State.leaveOrder_profile (h : Fin 16) : (s.leaveOrder h).profile = s.profile := rfl
@[simp] theorem State.leaveOrder_binding (h : Fin 16) : (s.leaveOrder h).binding = s.binding := rfl
@[simp] theorem State.leaveOrder_rooms (h : Fin 16) : (s.leaveOrder h).rooms = s.rooms := rfl
@[simp] theorem State.leaveOrder_channels (h : Fin 16) : (s.leaveOrder h).channels = s.channels := rfl
@[simp] theorem State.leaveOrder_converter (h : Fin 16) : (s.leaveOrder h).converter = s.converter := rfl
@[simp] theorem State.leaveOrder_loops (h : Fin 16) : (s.leaveOrder h).loops = s.loops := rfl
@[simp] theorem State.leaveOrder_exercise (h : Fin 16) : (s.leaveOrder h).exercise = s.exercise := rfl
@[simp] theorem State.leaveOrder_roundPos (h : Fin 16) : (s.leaveOrder h).roundPos = s.roundPos := rfl
@[simp] theorem State.leaveOrder_interrupted (h : Fin 16) : (s.leaveOrder h).interrupted = s.interrupted := rfl
@[simp] theorem State.leaveOrder_opening (h : Fin 16) : (s.leaveOrder h).opening = s.opening := rfl
@[simp] theorem State.leaveOrder_heads (h : Fin 16) : (s.leaveOrder h).heads = s.heads := rfl
@[simp] theorem State.leaveOrder_modulator (h : Fin 16) : (s.leaveOrder h).modulator = s.modulator := rfl
@[simp] theorem State.leaveOrder_windows (h : Fin 16) : (s.leaveOrder h).windows = s.windows := rfl
@[simp] theorem State.leaveOrder_flags (h : Fin 16) : (s.leaveOrder h).flags = s.flags := rfl

@[simp] theorem State.refreshOrder_pending : (s.refreshOrder).pending = s.pending := rfl
@[simp] theorem State.refreshOrder_ring : (s.refreshOrder).ring = s.ring := rfl
@[simp] theorem State.refreshOrder_mode : (s.refreshOrder).mode = s.mode := rfl
@[simp] theorem State.refreshOrder_startRounds : (s.refreshOrder).startRounds = s.startRounds := rfl
@[simp] theorem State.refreshOrder_interval : (s.refreshOrder).interval = s.interval := rfl
@[simp] theorem State.refreshOrder_store : (s.refreshOrder).store = s.store := rfl
@[simp] theorem State.refreshOrder_profile : (s.refreshOrder).profile = s.profile := rfl
@[simp] theorem State.refreshOrder_binding : (s.refreshOrder).binding = s.binding := rfl
@[simp] theorem State.refreshOrder_rooms : (s.refreshOrder).rooms = s.rooms := rfl
@[simp] theorem State.refreshOrder_channels : (s.refreshOrder).channels = s.channels := rfl
@[simp] theorem State.refreshOrder_converter : (s.refreshOrder).converter = s.converter := rfl
@[simp] theorem State.refreshOrder_loops : (s.refreshOrder).loops = s.loops := rfl
@[simp] theorem State.refreshOrder_exercise : (s.refreshOrder).exercise = s.exercise := rfl
@[simp] theorem State.refreshOrder_roundPos : (s.refreshOrder).roundPos = s.roundPos := rfl
@[simp] theorem State.refreshOrder_interrupted : (s.refreshOrder).interrupted = s.interrupted := rfl
@[simp] theorem State.refreshOrder_opening : (s.refreshOrder).opening = s.opening := rfl
@[simp] theorem State.refreshOrder_heads : (s.refreshOrder).heads = s.heads := rfl
@[simp] theorem State.refreshOrder_modulator : (s.refreshOrder).modulator = s.modulator := rfl
@[simp] theorem State.refreshOrder_windows : (s.refreshOrder).windows = s.windows := rfl
@[simp] theorem State.refreshOrder_flags : (s.refreshOrder).flags = s.flags := rfl

@[simp] theorem State.settle_pending : (s.settle).pending = s.pending := rfl
@[simp] theorem State.settle_mode : (s.settle).mode = s.mode := rfl
@[simp] theorem State.settle_startRounds : (s.settle).startRounds = s.startRounds := rfl
@[simp] theorem State.settle_interval : (s.settle).interval = s.interval := rfl
@[simp] theorem State.settle_store : (s.settle).store = s.store := rfl
@[simp] theorem State.settle_profile : (s.settle).profile = s.profile := rfl
@[simp] theorem State.settle_binding : (s.settle).binding = s.binding := rfl
@[simp] theorem State.settle_rooms : (s.settle).rooms = s.rooms := rfl
@[simp] theorem State.settle_channels : (s.settle).channels = s.channels := rfl
@[simp] theorem State.settle_converter : (s.settle).converter = s.converter := rfl
@[simp] theorem State.settle_loops : (s.settle).loops = s.loops := rfl
@[simp] theorem State.settle_exercise : (s.settle).exercise = s.exercise := rfl
@[simp] theorem State.settle_roundPos : (s.settle).roundPos = s.roundPos := rfl
@[simp] theorem State.settle_interrupted : (s.settle).interrupted = s.interrupted := rfl
@[simp] theorem State.settle_opening : (s.settle).opening = s.opening := rfl
@[simp] theorem State.settle_heads : (s.settle).heads = s.heads := rfl
@[simp] theorem State.settle_string : (s.settle).string = s.string := rfl
@[simp] theorem State.settle_modulator : (s.settle).modulator = s.modulator := rfl
@[simp] theorem State.settle_windows : (s.settle).windows = s.windows := rfl

@[simp] theorem State.raiseFlag_pending (f : Flag) (n : Nat) (v : Int) : (s.raiseFlag f n v).pending = s.pending := rfl
@[simp] theorem State.raiseFlag_mode (f : Flag) (n : Nat) (v : Int) : (s.raiseFlag f n v).mode = s.mode := rfl
@[simp] theorem State.raiseFlag_startRounds (f : Flag) (n : Nat) (v : Int) : (s.raiseFlag f n v).startRounds = s.startRounds := rfl
@[simp] theorem State.raiseFlag_interval (f : Flag) (n : Nat) (v : Int) : (s.raiseFlag f n v).interval = s.interval := rfl
@[simp] theorem State.raiseFlag_store (f : Flag) (n : Nat) (v : Int) : (s.raiseFlag f n v).store = s.store := rfl
@[simp] theorem State.raiseFlag_profile (f : Flag) (n : Nat) (v : Int) : (s.raiseFlag f n v).profile = s.profile := rfl
@[simp] theorem State.raiseFlag_binding (f : Flag) (n : Nat) (v : Int) : (s.raiseFlag f n v).binding = s.binding := rfl
@[simp] theorem State.raiseFlag_rooms (f : Flag) (n : Nat) (v : Int) : (s.raiseFlag f n v).rooms = s.rooms := rfl
@[simp] theorem State.raiseFlag_channels (f : Flag) (n : Nat) (v : Int) : (s.raiseFlag f n v).channels = s.channels := rfl
@[simp] theorem State.raiseFlag_converter (f : Flag) (n : Nat) (v : Int) : (s.raiseFlag f n v).converter = s.converter := rfl
@[simp] theorem State.raiseFlag_loops (f : Flag) (n : Nat) (v : Int) : (s.raiseFlag f n v).loops = s.loops := rfl
@[simp] theorem State.raiseFlag_exercise (f : Flag) (n : Nat) (v : Int) : (s.raiseFlag f n v).exercise = s.exercise := rfl
@[simp] theorem State.raiseFlag_roundPos (f : Flag) (n : Nat) (v : Int) : (s.raiseFlag f n v).roundPos = s.roundPos := rfl
@[simp] theorem State.raiseFlag_interrupted (f : Flag) (n : Nat) (v : Int) : (s.raiseFlag f n v).interrupted = s.interrupted := rfl
@[simp] theorem State.raiseFlag_opening (f : Flag) (n : Nat) (v : Int) : (s.raiseFlag f n v).opening = s.opening := rfl
@[simp] theorem State.raiseFlag_heads (f : Flag) (n : Nat) (v : Int) : (s.raiseFlag f n v).heads = s.heads := rfl
@[simp] theorem State.raiseFlag_string (f : Flag) (n : Nat) (v : Int) : (s.raiseFlag f n v).string = s.string := rfl
@[simp] theorem State.raiseFlag_modulator (f : Flag) (n : Nat) (v : Int) : (s.raiseFlag f n v).modulator = s.modulator := rfl
@[simp] theorem State.raiseFlag_windows (f : Flag) (n : Nat) (v : Int) : (s.raiseFlag f n v).windows = s.windows := rfl

@[simp] theorem State.offerCall_pending (p : List Byte) : (s.offerCall p).pending = s.pending := rfl
@[simp] theorem State.offerCall_mode (p : List Byte) : (s.offerCall p).mode = s.mode := rfl
@[simp] theorem State.offerCall_startRounds (p : List Byte) : (s.offerCall p).startRounds = s.startRounds := rfl
@[simp] theorem State.offerCall_interval (p : List Byte) : (s.offerCall p).interval = s.interval := rfl
@[simp] theorem State.offerCall_store (p : List Byte) : (s.offerCall p).store = s.store := rfl
@[simp] theorem State.offerCall_profile (p : List Byte) : (s.offerCall p).profile = s.profile := rfl
@[simp] theorem State.offerCall_binding (p : List Byte) : (s.offerCall p).binding = s.binding := rfl
@[simp] theorem State.offerCall_rooms (p : List Byte) : (s.offerCall p).rooms = s.rooms := rfl
@[simp] theorem State.offerCall_channels (p : List Byte) : (s.offerCall p).channels = s.channels := rfl
@[simp] theorem State.offerCall_converter (p : List Byte) : (s.offerCall p).converter = s.converter := rfl
@[simp] theorem State.offerCall_loops (p : List Byte) : (s.offerCall p).loops = s.loops := rfl
@[simp] theorem State.offerCall_exercise (p : List Byte) : (s.offerCall p).exercise = s.exercise := rfl
@[simp] theorem State.offerCall_roundPos (p : List Byte) : (s.offerCall p).roundPos = s.roundPos := rfl
@[simp] theorem State.offerCall_interrupted (p : List Byte) : (s.offerCall p).interrupted = s.interrupted := rfl
@[simp] theorem State.offerCall_opening (p : List Byte) : (s.offerCall p).opening = s.opening := rfl
@[simp] theorem State.offerCall_heads (p : List Byte) : (s.offerCall p).heads = s.heads := rfl
@[simp] theorem State.offerCall_string (p : List Byte) : (s.offerCall p).string = s.string := rfl
@[simp] theorem State.offerCall_modulator (p : List Byte) : (s.offerCall p).modulator = s.modulator := rfl
@[simp] theorem State.offerCall_windows (p : List Byte) : (s.offerCall p).windows = s.windows := rfl

@[simp] theorem State.wantProbe_pending (i : Fin 16) : (s.wantProbe i).pending = s.pending := rfl
@[simp] theorem State.wantProbe_ring (i : Fin 16) : (s.wantProbe i).ring = s.ring := rfl
@[simp] theorem State.wantProbe_mode (i : Fin 16) : (s.wantProbe i).mode = s.mode := rfl
@[simp] theorem State.wantProbe_startRounds (i : Fin 16) : (s.wantProbe i).startRounds = s.startRounds := rfl
@[simp] theorem State.wantProbe_interval (i : Fin 16) : (s.wantProbe i).interval = s.interval := rfl
@[simp] theorem State.wantProbe_store (i : Fin 16) : (s.wantProbe i).store = s.store := rfl
@[simp] theorem State.wantProbe_profile (i : Fin 16) : (s.wantProbe i).profile = s.profile := rfl
@[simp] theorem State.wantProbe_binding (i : Fin 16) : (s.wantProbe i).binding = s.binding := rfl
@[simp] theorem State.wantProbe_rooms (i : Fin 16) : (s.wantProbe i).rooms = s.rooms := rfl
@[simp] theorem State.wantProbe_channels (i : Fin 16) : (s.wantProbe i).channels = s.channels := rfl
@[simp] theorem State.wantProbe_converter (i : Fin 16) : (s.wantProbe i).converter = s.converter := rfl
@[simp] theorem State.wantProbe_loops (i : Fin 16) : (s.wantProbe i).loops = s.loops := rfl
@[simp] theorem State.wantProbe_exercise (i : Fin 16) : (s.wantProbe i).exercise = s.exercise := rfl
@[simp] theorem State.wantProbe_roundPos (i : Fin 16) : (s.wantProbe i).roundPos = s.roundPos := rfl
@[simp] theorem State.wantProbe_interrupted (i : Fin 16) : (s.wantProbe i).interrupted = s.interrupted := rfl
@[simp] theorem State.wantProbe_opening (i : Fin 16) : (s.wantProbe i).opening = s.opening := rfl
@[simp] theorem State.wantProbe_string (i : Fin 16) : (s.wantProbe i).string = s.string := rfl
@[simp] theorem State.wantProbe_modulator (i : Fin 16) : (s.wantProbe i).modulator = s.modulator := rfl
@[simp] theorem State.wantProbe_windows (i : Fin 16) : (s.wantProbe i).windows = s.windows := rfl
@[simp] theorem State.wantProbe_flags (i : Fin 16) : (s.wantProbe i).flags = s.flags := rfl

@[simp] theorem State.requestClose_pending (i : Fin 16) (k : HeadKind) : (s.requestClose i k).pending = s.pending := rfl
@[simp] theorem State.requestClose_ring (i : Fin 16) (k : HeadKind) : (s.requestClose i k).ring = s.ring := rfl
@[simp] theorem State.requestClose_mode (i : Fin 16) (k : HeadKind) : (s.requestClose i k).mode = s.mode := rfl
@[simp] theorem State.requestClose_startRounds (i : Fin 16) (k : HeadKind) : (s.requestClose i k).startRounds = s.startRounds := rfl
@[simp] theorem State.requestClose_interval (i : Fin 16) (k : HeadKind) : (s.requestClose i k).interval = s.interval := rfl
@[simp] theorem State.requestClose_store (i : Fin 16) (k : HeadKind) : (s.requestClose i k).store = s.store := rfl
@[simp] theorem State.requestClose_profile (i : Fin 16) (k : HeadKind) : (s.requestClose i k).profile = s.profile := rfl
@[simp] theorem State.requestClose_binding (i : Fin 16) (k : HeadKind) : (s.requestClose i k).binding = s.binding := rfl
@[simp] theorem State.requestClose_rooms (i : Fin 16) (k : HeadKind) : (s.requestClose i k).rooms = s.rooms := rfl
@[simp] theorem State.requestClose_channels (i : Fin 16) (k : HeadKind) : (s.requestClose i k).channels = s.channels := rfl
@[simp] theorem State.requestClose_converter (i : Fin 16) (k : HeadKind) : (s.requestClose i k).converter = s.converter := rfl
@[simp] theorem State.requestClose_loops (i : Fin 16) (k : HeadKind) : (s.requestClose i k).loops = s.loops := rfl
@[simp] theorem State.requestClose_exercise (i : Fin 16) (k : HeadKind) : (s.requestClose i k).exercise = s.exercise := rfl
@[simp] theorem State.requestClose_roundPos (i : Fin 16) (k : HeadKind) : (s.requestClose i k).roundPos = s.roundPos := rfl
@[simp] theorem State.requestClose_interrupted (i : Fin 16) (k : HeadKind) : (s.requestClose i k).interrupted = s.interrupted := rfl
@[simp] theorem State.requestClose_opening (i : Fin 16) (k : HeadKind) : (s.requestClose i k).opening = s.opening := rfl
@[simp] theorem State.requestClose_string (i : Fin 16) (k : HeadKind) : (s.requestClose i k).string = s.string := rfl
@[simp] theorem State.requestClose_modulator (i : Fin 16) (k : HeadKind) : (s.requestClose i k).modulator = s.modulator := rfl
@[simp] theorem State.requestClose_windows (i : Fin 16) (k : HeadKind) : (s.requestClose i k).windows = s.windows := rfl
@[simp] theorem State.requestClose_flags (i : Fin 16) (k : HeadKind) : (s.requestClose i k).flags = s.flags := rfl

@[simp] theorem State.endTravel_pending (i : Fin 16) : (s.endTravel i).pending = s.pending := rfl
@[simp] theorem State.endTravel_ring (i : Fin 16) : (s.endTravel i).ring = s.ring := rfl
@[simp] theorem State.endTravel_mode (i : Fin 16) : (s.endTravel i).mode = s.mode := rfl
@[simp] theorem State.endTravel_startRounds (i : Fin 16) : (s.endTravel i).startRounds = s.startRounds := rfl
@[simp] theorem State.endTravel_interval (i : Fin 16) : (s.endTravel i).interval = s.interval := rfl
@[simp] theorem State.endTravel_store (i : Fin 16) : (s.endTravel i).store = s.store := rfl
@[simp] theorem State.endTravel_profile (i : Fin 16) : (s.endTravel i).profile = s.profile := rfl
@[simp] theorem State.endTravel_binding (i : Fin 16) : (s.endTravel i).binding = s.binding := rfl
@[simp] theorem State.endTravel_rooms (i : Fin 16) : (s.endTravel i).rooms = s.rooms := rfl
@[simp] theorem State.endTravel_channels (i : Fin 16) : (s.endTravel i).channels = s.channels := rfl
@[simp] theorem State.endTravel_converter (i : Fin 16) : (s.endTravel i).converter = s.converter := rfl
@[simp] theorem State.endTravel_loops (i : Fin 16) : (s.endTravel i).loops = s.loops := rfl
@[simp] theorem State.endTravel_exercise (i : Fin 16) : (s.endTravel i).exercise = s.exercise := rfl
@[simp] theorem State.endTravel_roundPos (i : Fin 16) : (s.endTravel i).roundPos = s.roundPos := rfl
@[simp] theorem State.endTravel_interrupted (i : Fin 16) : (s.endTravel i).interrupted = s.interrupted := rfl
@[simp] theorem State.endTravel_opening (i : Fin 16) : (s.endTravel i).opening = s.opening := rfl
@[simp] theorem State.endTravel_string (i : Fin 16) : (s.endTravel i).string = s.string := rfl
@[simp] theorem State.endTravel_modulator (i : Fin 16) : (s.endTravel i).modulator = s.modulator := rfl
@[simp] theorem State.endTravel_windows (i : Fin 16) : (s.endTravel i).windows = s.windows := rfl
@[simp] theorem State.endTravel_flags (i : Fin 16) : (s.endTravel i).flags = s.flags := rfl

/-! ## The record that an update writes -/

@[simp] theorem State.setLoop_get (i j : Fin 16) (f : LoopRec → LoopRec) :
    (s.setLoop i f).loops.get j = if i = j then f (s.loops.get i) else s.loops.get j :=
  Tab.get_modify ..

@[simp] theorem State.setHead_get (i j : Fin 16) (f : Head → Head) :
    (s.setHead i f).heads.get j = if i = j then f (s.heads.get i) else s.heads.get j :=
  Tab.get_modify ..

@[simp] theorem State.setRoom_get (i j : Fin 12) (f : Room → Room) :
    (s.setRoom i f).rooms.get j = if i = j then f (s.rooms.get i) else s.rooms.get j :=
  Tab.get_modify ..

@[simp] theorem State.setChannel_get (i j : Fin 18) (f : Channel → Channel) :
    (s.setChannel i f).channels.get j = if i = j then f (s.channels.get i) else s.channels.get j :=
  Tab.get_modify ..

@[simp] theorem State.setWindow_get (i j : Fin 8) (f : Window → Window) :
    (s.setWindow i f).windows.get j = if i = j then f (s.windows.get i) else s.windows.get j :=
  Tab.get_modify ..

@[simp] theorem State.setRec_get (i j : Fin 16) (r : Option ModRec) :
    (s.setRec i r).modulator.recs.get j = if i = j then r else s.modulator.recs.get j :=
  Tab.get_set ..

@[simp] theorem State.setRec_queue (i : Fin 16) (r : Option ModRec) :
    (s.setRec i r).modulator.queue = s.modulator.queue := rfl

@[simp] theorem State.setRec_slotCount (i : Fin 16) (r : Option ModRec) :
    (s.setRec i r).modulator.slotCount = s.modulator.slotCount := rfl

@[simp] theorem State.setQueue_queue (q : List (Fin 16)) : (s.setQueue q).modulator.queue = q := rfl

@[simp] theorem State.setQueue_recs (q : List (Fin 16)) :
    (s.setQueue q).modulator.recs = s.modulator.recs := rfl

@[simp] theorem State.setQueue_slotCount (q : List (Fin 16)) :
    (s.setQueue q).modulator.slotCount = s.modulator.slotCount := rfl

end Sys2Proof.Machine
end

