-- ==== Sys2Proof/Laws/Ring.lean ====
section
/-! SUPPORT. What the ring port's moves and the notice unit can do (01, R8 to R12; 11, R174 to R176):
said once, for the proofs that cite it. -/

namespace Sys2Proof.Machine

variable {m : Nat} {rep : Bool} {p p' : RingPort × Tab 16 FlagRec}

/-! ## One move -/

/-- The moves there are: a choice, the deferred answer, the pending CALL value, or a notice. -/
theorem settleStep_cases (h : settleStep m rep p = some p') :
    (p.1.mustChoose = true ∧ p' = (p.1.choose, p.2)) ∨
    (p.1.mustChoose = false ∧ p.1.ownSend.length < 8 ∧
      ((∃ f, p.1.deferred = some f ∧ p' = ({ p.1 with deferred := none }.push f, p.2)) ∨
       (p.1.deferred = none ∧ ∃ c, p.1.pendingCall = some c ∧
          p' = ({ p.1 with pendingCall := none }.pushOwn .call 0 c, p.2)) ∨
       (p.1.deferred = none ∧ p.1.pendingCall = none ∧ p.1.ownSend.length < 6 ∧ rep = false ∧
          ∃ n, chooseNotice p.2 = some n ∧
            p' = (p.1.pushOwn .ntc m (noticePayload n (p.2.get n)),
              p.2.modify n fun f => { f with pending := false })))) := by
  unfold settleStep at h
  split at h
  · next hc => left; exact ⟨hc, by simpa using h.symm⟩
  · next hc =>
    right
    refine ⟨by simpa using hc, ?_⟩
    split at h
    · next hl =>
      refine ⟨hl, ?_⟩
      split at h
      · next f hd => left; exact ⟨f, hd, by simpa using h.symm⟩
      · next c hd hp => right; left; exact ⟨hd, c, hp, by simpa using h.symm⟩
      · next hd hp =>
        right; right
        refine ⟨hd, hp, ?_⟩
        split at h
        · next hr =>
          simp only [Bool.and_eq_true, decide_eq_true_eq, Bool.not_eq_true'] at hr
          refine ⟨hr.1, hr.2, ?_⟩
          split at h
          · next n hn => exact ⟨n, hn, by simpa using h.symm⟩
          · cases h
        · cases h
    · cases h

/-- Moves go on by induction: what every move keeps, the whole run of moves keeps. -/
theorem settleLoop_keeps {P : RingPort × Tab 16 FlagRec → Prop}
    (hs : ∀ p p', settleStep m rep p = some p' → P p → P p') :
    ∀ (k : Nat) (p : RingPort × Tab 16 FlagRec), P p → P (settleLoop m rep k p)
  | 0, _, h => h
  | k + 1, p, h => by
    unfold settleLoop
    split
    · next p' hp => exact settleLoop_keeps hs k p' (hs p p' hp h)
    · exact h

/-- The arbiter's choice takes a frame from the head of one of the queues (01, R9). -/
theorem choose_cases (r : RingPort) :
    (r.insertion = [] ∧ r.ownSend = [] ∧ r.choose = { r with out := none }) ∨
    (∃ f ins, r.insertion = f :: ins ∧
      (r.ownSend = [] ∧ r.choose = { r with insertion := ins, out := some f, streak := 0 } ∨
       r.ownSend ≠ [] ∧ r.streak < 8 ∧
        r.choose = { r with insertion := ins, out := some f, streak := r.streak + 1 })) ∨
    (∃ f own, r.ownSend = f :: own ∧ r.choose = { r with ownSend := own, out := some f, streak := 0 }) := by
  unfold RingPort.choose
  cases hi : r.insertion with
  | nil =>
    cases ho : r.ownSend with
    | nil => left; simp
    | cons f own => right; right; exact ⟨f, own, rfl, rfl⟩
  | cons f ins =>
    cases ho : r.ownSend with
    | nil => right; left; exact ⟨f, ins, rfl, .inl ⟨rfl, rfl⟩⟩
    | cons g own =>
      by_cases hst : r.streak < 8
      · right; left
        exact ⟨f, ins, rfl, .inr ⟨by simp, hst, by simp [Config.streakLimit, hst]⟩⟩
      · right; right
        exact ⟨g, own, rfl, by simp [Config.streakLimit, hst]⟩

/-! ## The moves come to an end -/

/-- What is left to do: twice for an IDLE out-port, once for each free own-send place. -/
def movesLeft (r : RingPort) : Nat := (if r.out.isNone then 2 else 0) + (8 - r.ownSend.length)

theorem movesLeft_le (r : RingPort) : movesLeft r ≤ 10 := by
  unfold movesLeft; split <;> omega

theorem settleStep_movesLeft (h : settleStep m rep p = some p') :
    movesLeft p'.1 < movesLeft p.1 := by
  rcases settleStep_cases h with ⟨hc, rfl⟩ | ⟨-, hl, ⟨f, -, rfl⟩ | ⟨-, c, -, rfl⟩ | ⟨-, -, -, -, n, -, rfl⟩⟩
  · have ho : p.1.out = none := by
      simp only [RingPort.mustChoose, Bool.and_eq_true, Option.isNone_iff_eq_none] at hc; exact hc.1
    rcases choose_cases p.1 with ⟨hi, hq, -⟩ | ⟨f, ins, hi, ⟨hq, e⟩ | ⟨hq, -, e⟩⟩ | ⟨f, own, hq, e⟩
    · simp [RingPort.mustChoose, hi, hq] at hc
    · simp [movesLeft, e, ho]
    · simp [movesLeft, e, ho]
    · simp [movesLeft, e, ho, hq]; omega
  all_goals
    cases ho : p.1.out <;> simp [movesLeft, RingPort.push, RingPort.pushOwn, ho] <;> omega

/-- With moves enough, none is left. -/
theorem settleLoop_none : ∀ (k : Nat) (p : RingPort × Tab 16 FlagRec), movesLeft p.1 ≤ k →
    settleStep m rep (settleLoop m rep k p) = none
  | 0, p, h => by
    unfold settleLoop
    cases hs : settleStep m rep p with
    | none => rfl
    | some p' => have := settleStep_movesLeft hs; omega
  | k + 1, p, h => by
    unfold settleLoop
    cases hs : settleStep m rep p with
    | none => exact hs
    | some p' => exact settleLoop_none k p' (by have := settleStep_movesLeft hs; omega)

/-! ## What the moves keep -/

/-- 01 R6, R9, R11, R12: a move keeps the bounds of the ring port. -/
theorem settleStep_bounded (h : settleStep m rep p = some p') (hb : p.1.bounded) : p'.1.bounded := by
  obtain ⟨h1, h2, h3, h4, h5, h6⟩ := hb
  rcases settleStep_cases h with ⟨hc, rfl⟩ | ⟨-, hl, ⟨f, hd, rfl⟩ | ⟨-, c, hp, rfl⟩ | ⟨-, hp, -, -, n, -, rfl⟩⟩
  · rcases choose_cases p.1 with ⟨hi, hq, -⟩ | ⟨f, ins, hi, ⟨hq, e⟩ | ⟨hq, hst, e⟩⟩ | ⟨f, own, hq, e⟩
    · simp [RingPort.mustChoose, hi, hq] at hc
    · rw [hi, List.length_cons] at h1
      simp only [RingPort.bounded, e]
      exact ⟨by omega, h2, h3, by omega, h5, h6⟩
    · rw [hi, List.length_cons] at h1
      simp only [RingPort.bounded, e]
      exact ⟨by omega, h2, h3, by omega, h5, h6⟩
    · simp only [hq, List.countP_cons, List.length_cons] at h2 h3 h5
      simp only [RingPort.bounded, e]
      exact ⟨h1, by omega, by omega, by omega, fun hp => by have := h5 hp; omega, h6⟩
  · have hf : f.isCall = false := h6 f hd
    simp only [RingPort.bounded, RingPort.push, List.length_append, List.length_singleton,
      List.countP_append, List.countP_singleton, hf]
    exact ⟨h1, by omega, by simpa using h3, h4, fun hp => by simpa using h5 hp, by simp⟩
  · have h0 := h5 (by simp [hp])
    simp only [RingPort.bounded, RingPort.pushOwn, RingPort.ownFrame, List.length_append,
      List.length_singleton, List.countP_append, List.countP_singleton]
    refine ⟨h1, by omega, by rw [h0]; split <;> omega, h4, by simp, h6⟩
  · have hn : (p.1.ownFrame .ntc m (noticePayload n (p.2.get n))).isCall = false := rfl
    simp only [RingPort.bounded, RingPort.pushOwn, List.length_append, List.length_singleton,
      List.countP_append, List.countP_singleton, hn, hp]
    exact ⟨h1, by omega, by simpa using h3, h4, by simp, h6⟩

/-- A move keeps the station address. -/
theorem settleStep_station (h : settleStep m rep p = some p') : p'.1.station = p.1.station := by
  rcases settleStep_cases h with ⟨-, rfl⟩ | ⟨-, -, ⟨f, -, rfl⟩ | ⟨-, c, -, rfl⟩ | ⟨-, -, -, -, n, -, rfl⟩⟩
  · rcases choose_cases p.1 with ⟨-, -, e⟩ | ⟨f, ins, -, ⟨-, e⟩ | ⟨-, -, e⟩⟩ | ⟨f, own, -, e⟩ <;> rw [e]
  all_goals rfl

/-- A move keeps every flag's set bit and kept detail. -/
theorem settleStep_flag (h : settleStep m rep p = some p') (n : Fin 16) :
    (p'.2.get n).set = (p.2.get n).set ∧ (p'.2.get n).index = (p.2.get n).index ∧
      (p'.2.get n).value = (p.2.get n).value := by
  rcases settleStep_cases h with ⟨-, rfl⟩ | ⟨-, -, ⟨f, -, rfl⟩ | ⟨-, c, -, rfl⟩ | ⟨-, -, -, -, k, -, rfl⟩⟩
  · exact ⟨rfl, rfl, rfl⟩
  · exact ⟨rfl, rfl, rfl⟩
  · exact ⟨rfl, rfl, rfl⟩
  · simp only [Tab.get_modify]
    split
    · next e => subst e; exact ⟨rfl, rfl, rfl⟩
    · exact ⟨rfl, rfl, rfl⟩

/-- A frame that waits or is being sent does so after a move. -/
theorem settleStep_sends (h : settleStep m rep p = some p') {f : Frame}
    (hf : f ∈ p.1.ownSend ∨ p.1.out = some f) : f ∈ p'.1.ownSend ∨ p'.1.out = some f := by
  rcases settleStep_cases h with ⟨hc, rfl⟩ | ⟨-, -, ⟨g, -, rfl⟩ | ⟨-, c, -, rfl⟩ | ⟨-, -, -, -, k, -, rfl⟩⟩
  · have ho : p.1.out = none := by
      simp only [RingPort.mustChoose, Bool.and_eq_true, Option.isNone_iff_eq_none] at hc; exact hc.1
    have hm : f ∈ p.1.ownSend := by simpa [ho] using hf
    rcases choose_cases p.1 with ⟨-, hq, -⟩ | ⟨g, ins, -, ⟨hq, e⟩ | ⟨-, -, e⟩⟩ | ⟨g, own, hq, e⟩
    · simp [hq] at hm
    · simp [hq] at hm
    · left; rw [e]; exact hm
    · rw [e]
      rw [hq] at hm
      rcases List.mem_cons.mp hm with rfl | hm
      · right; rfl
      · left; exact hm
  all_goals
    rcases hf with hm | ho
    · left; exact List.mem_append_left _ hm
    · right; exact ho

/-! ## State.settle -/

variable (s : State)

/-- After `settle` nothing is due. -/
theorem State.settle_settled : s.settle.settled :=
  settleLoop_none 12 _ (le_trans (movesLeft_le _) (by omega))

theorem State.settle_bounded (h : s.ring.bounded) : s.settle.ring.bounded :=
  settleLoop_keeps (P := fun p => p.1.bounded) (fun _ _ hs hp => settleStep_bounded hs hp) 12 _ h

/-- `settle` leaves a bounded ring port as it stands between commands. -/
theorem State.settle_ringGood (h : s.ring.bounded) : s.settle.ringGood :=
  ⟨s.settle_bounded h, s.settle_settled⟩

@[simp] theorem State.settle_station : s.settle.ring.station = s.ring.station :=
  settleLoop_keeps (P := fun p => p.1.station = s.ring.station)
    (fun _ _ hs hp => (settleStep_station hs).trans hp) 12 _ rfl

/-- `settle` keeps every flag's set bit and kept detail. -/
theorem State.settle_flag (n : Fin 16) :
    (s.settle.flags.get n).set = (s.flags.get n).set ∧
      (s.settle.flags.get n).index = (s.flags.get n).index ∧
      (s.settle.flags.get n).value = (s.flags.get n).value :=
  settleLoop_keeps
    (P := fun p => (p.2.get n).set = (s.flags.get n).set ∧ (p.2.get n).index = (s.flags.get n).index ∧
      (p.2.get n).value = (s.flags.get n).value)
    (fun _ _ hs hp => by
      obtain ⟨a, b, c⟩ := settleStep_flag hs n
      exact ⟨a.trans hp.1, b.trans hp.2.1, c.trans hp.2.2⟩) 12 _ ⟨rfl, rfl, rfl⟩

/-- `settle` loses no own frame. -/
theorem State.settle_sends {f : Frame} (h : s.sends f) : s.settle.sends f :=
  settleLoop_keeps (P := fun p => f ∈ p.1.ownSend ∨ p.1.out = some f)
    (fun _ _ hs hp => settleStep_sends hs hp) 12 _ h

/-- `settle` changes nothing when nothing is due. -/
theorem State.settle_of_settled (h : s.settled) : s.settle = s := by
  have e : settleLoop s.profile.manager (s.mode == .repeater) 12 (s.ring, s.flags)
      = (s.ring, s.flags) := by
    rw [settleLoop, show settleStep s.profile.manager (s.mode == .repeater) (s.ring, s.flags) = none from h]
  simp [State.settle, e]

/-! ## Flags (11, R174) -/

/-- The flag that an event sets, with its detail. -/
theorem State.raiseFlag_flagged (f : Flag) (n : Nat) (v : Int) : (s.raiseFlag f n v).flagged f n v := by
  obtain ⟨a, b, c⟩ := State.settle_flag { s with flags := (s.flags.modify f.number
    (FlagRec.raise (noticeEnabled s.profile.noticeMask f.number) n v)) } f.number
  simp only [Tab.get_modify_self] at a b c
  exact ⟨a, b, c⟩

/-- The other flags keep their set bits and details. -/
theorem State.raiseFlag_kept (f : Flag) (n : Nat) (v : Int) : flagsKept [f] s (s.raiseFlag f n v) := by
  intro k hk
  have hne : f.number ≠ k := hk f (by simp)
  obtain ⟨a, b, c⟩ := State.settle_flag { s with flags := (s.flags.modify f.number
    (FlagRec.raise (noticeEnabled s.profile.noticeMask f.number) n v)) } k
  simp only [Tab.get_modify_ne _ hne] at a b c
  exact ⟨a, b, c⟩

theorem State.raiseFlag_ringGood (f : Flag) (n : Nat) (v : Int) (h : s.ring.bounded) :
    (s.raiseFlag f n v).ringGood := State.settle_ringGood _ h

@[simp] theorem State.raiseFlag_station (f : Flag) (n : Nat) (v : Int) :
    (s.raiseFlag f n v).ring.station = s.ring.station := State.settle_station _

theorem State.raiseFlag_sends (f : Flag) (n : Nat) (v : Int) {g : Frame} (h : s.sends g) :
    (s.raiseFlag f n v).sends g := State.settle_sends _ h

/-! ## A CALL (01, R12) -/

/-- Between commands an offered CALL keeps the bounds: it replaces the one CALL in place, enters a
queue that holds none, or waits. -/
theorem State.offerCall_ringGood (c : List Byte) (h : s.ringGood) : (s.offerCall c).ringGood := by
  obtain ⟨⟨h1, h2, h3, h4, h5, h6⟩, hs⟩ := h
  apply State.settle_ringGood
  show (s.ring.offerCall c).bounded
  unfold RingPort.offerCall
  split
  · next ha =>
    have hcount : (s.ring.ownSend.map fun f => if f.isCall = true then s.ring.ownFrame .call 0 c else f).countP
        Frame.isCall = s.ring.ownSend.countP Frame.isCall := by
      rw [List.countP_map]
      apply List.countP_congr
      intro f _
      by_cases hf : f.isCall = true
      · simp [hf, show (s.ring.ownFrame .call 0 c).isCall = true from rfl]
      · simp [hf]
    exact ⟨h1, by simpa using h2, by simpa [hcount] using h3, h4, fun hp => by simpa [hcount] using h5 hp, h6⟩
  · next ha =>
    have h0 : s.ring.ownSend.countP Frame.isCall = 0 := by
      rw [List.countP_eq_zero]
      simpa using ha
    split
    · next hl =>
      have hp : s.ring.pendingCall = none := by
        by_contra hne
        obtain ⟨d, hd⟩ := Option.ne_none_iff_exists'.mp hne
        simp only [State.settled, settleStep] at hs
        rw [hd] at hs
        split at hs
        · cases hs
        · split at hs
          · cases hs
          · cases hs
          · next hh => cases hh
      simp only [RingPort.bounded, RingPort.pushOwn, List.length_append, List.length_singleton,
        List.countP_append, List.countP_singleton, h0, hp]
      have hl' : s.ring.ownSend.length < 8 := hl
      exact ⟨h1, by omega, by split <;> omega, h4, by simp, h6⟩
    · exact ⟨h1, h2, h3, h4, fun _ => h0, h6⟩

end Sys2Proof.Machine
end

