-- ==== Sys2Proof/Laws/Settled.lean ====
section
/-! SUPPORT. The end of a command on a part at which nothing is due: the pending sets are as they were
(09, R145), and an originated or a received frame takes exactly one place (01, R8 to R11). -/

namespace Sys2Proof.Machine

variable {s t : State}

/-! ## The pending sets -/

/-- Nothing is to be brought up to date in pending sets that are in order. -/
theorem State.refreshOrder_id (h : s.pendingOk) : s.refreshOrder = s := by
  obtain ⟨-, hw, hall⟩ := h
  have h1 : (s.string.order.filter fun h => (s.heads.get h).wants.some?) = s.string.order :=
    List.filter_eq_self.mpr fun h hh => hw h hh
  have h2 : ((List.finRange 16).filter fun h =>
      (s.heads.get h).wants.some? && !s.string.order.contains h && !s.inFlight h) = [] := by
    rw [List.filter_eq_nil_iff]
    intro h _ hc
    simp only [Bool.and_eq_true, Bool.not_eq_true', List.contains_eq_mem, decide_eq_false_iff_not] at hc
    exact hc.1.2 (hall h hc.1.1 hc.2)
  unfold State.refreshOrder
  simp only [h1, h2, List.append_nil]

/-- After a command the pending sets are in order, whatever the heads then hold. -/
theorem State.refreshOrder_pendingOk (h : s.string.order.Nodup) : s.refreshOrder.pendingOk := by
  refine ⟨?_, ?_, ?_⟩
  · show ((s.string.order.filter _) ++ _).Nodup
    rw [List.nodup_append]
    refine ⟨h.filter _, (List.nodup_finRange 16).filter _, ?_⟩
    intro a ha b hb hab
    subst hab
    simp only [List.mem_filter, Bool.and_eq_true, Bool.not_eq_true', List.contains_eq_mem,
      decide_eq_false_iff_not] at ha hb
    exact hb.2.1.2 ha.1
  · intro x hx
    have hx : x ∈ s.string.order.filter _ ++ _ := hx
    rw [List.mem_append] at hx
    rcases hx with hx | hx
    · exact (List.mem_filter.mp hx).2
    · have := (List.mem_filter.mp hx).2
      simp only [Bool.and_eq_true] at this
      exact this.1.1
  · intro x hx hf
    show x ∈ s.string.order.filter _ ++ _
    rw [List.mem_append]
    by_cases hm : x ∈ s.string.order
    · exact .inl (List.mem_filter.mpr ⟨hm, hx⟩)
    · right
      refine List.mem_filter.mpr ⟨List.mem_finRange x, ?_⟩
      have hx' : (s.heads.get x).wants.some? = true := hx
      have hf' : s.inFlight x = false := hf
      simp [hx', hf', hm]

/-- The pending sets look at the heads and at the string alone. -/
theorem State.pendingOk_congr (h : s.pendingOk) (hh : t.heads = s.heads) (hs : t.string = s.string) :
    t.pendingOk := by
  have hf : ∀ x, t.inFlight x = s.inFlight x := fun x => by simp only [State.inFlight, hs]
  obtain ⟨h1, h2, h3⟩ := h
  refine ⟨by rw [hs]; exact h1, fun x hx => ?_, fun x hx hx' => ?_⟩
  · rw [hh]; exact h2 x (by rw [← hs]; exact hx)
  · rw [hs]; exact h3 x (by rw [← hh]; exact hx) (by rw [← hf]; exact hx')

/-- A command that leaves the heads and the string alone ends as it stands. -/
theorem State.done_id (h : s.pendingOk) (hh : t.heads = s.heads) (hs : t.string = s.string) :
    t.done = .next t := by
  unfold State.done
  rw [State.refreshOrder_id (State.pendingOk_congr h hh hs)]

/-! ## One frame more at the ring port -/

/-- What a settled part has waiting: nothing that could move. -/
theorem State.settled_cases (h : s.settled) :
    s.ring.mustChoose = false ∧
      (8 ≤ s.ring.ownSend.length ∨
        s.ring.deferred = none ∧ s.ring.pendingCall = none ∧
          (6 ≤ s.ring.ownSend.length ∨ s.mode = .repeater ∨ chooseNotice s.flags = none)) := by
  unfold State.settled settleStep at h
  split at h
  · cases h
  · next hm =>
    refine ⟨by simpa using hm, ?_⟩
    split at h
    · right
      split at h
      · cases h
      · cases h
      · next hd hp =>
        refine ⟨hd, hp, ?_⟩
        split at h
        · split at h
          · cases h
          · next hn => exact .inr (.inr hn)
        · next hc =>
          by_cases h6 : s.ring.ownSend.length < 6
          · simp [Config.noticeRoom, h6] at hc
            exact .inr (.inl hc)
          · exact .inl (by omega)
    · next hl => exact .inl (by simp only [Config.ownPlaces] at hl; omega)

/-- Nothing moves where nothing could. -/
theorem settled_of (h1 : s.ring.mustChoose = false)
    (h2 : 8 ≤ s.ring.ownSend.length ∨
        s.ring.deferred = none ∧ s.ring.pendingCall = none ∧
          (6 ≤ s.ring.ownSend.length ∨ s.mode = .repeater ∨ chooseNotice s.flags = none)) :
    s.settled := by
  unfold State.settled settleStep
  rw [if_neg (by simp [h1])]
  rcases h2 with h2 | ⟨hd, hp, h2⟩
  · rw [if_neg (by simp only [Config.ownPlaces]; omega)]
  · split
    · simp only [hd, hp]
      rcases h2 with h2 | h2 | h2
      · rw [if_neg]; simp [Config.noticeRoom, Nat.not_lt.mpr h2]
      · rw [if_neg]; simp [h2]
      · simp only [h2]; split <;> rfl
    · rfl

/-- One move, and then none. -/
theorem settle_step {p : RingPort × Tab 16 FlagRec}
    (h : settleStep s.profile.manager (s.mode == .repeater) (s.ring, s.flags) = some p)
    (h' : State.settled { s with ring := p.1, flags := p.2 }) :
    s.settle = { s with ring := p.1, flags := p.2 } := by
  have h' : settleStep s.profile.manager (s.mode == .repeater) p = none := h'
  unfold State.settle
  simp only [settleLoop, h, h']

/-- An IDLE out-port of a settled part has empty queues. -/
theorem State.settled_idle (h : s.settled) (ho : s.ring.out = none) :
    s.ring.insertion = [] ∧ s.ring.ownSend = [] := by
  have hm := (State.settled_cases h).1
  simp only [RingPort.mustChoose, ho, Option.isNone_none, Bool.true_and, Bool.not_eq_false',
    Bool.and_eq_true, List.isEmpty_iff] at hm
  exact hm

/-- 01 R8 to R11: an originated frame that finds a place. -/
theorem State.settle_push (h : s.settled) (hl : s.ring.ownSend.length < 8) (f : Frame) :
    State.settle { s with ring := s.ring.push f } = { s with ring := s.ring.originated f } := by
  obtain ⟨hm, hr⟩ := State.settled_cases h
  rcases hr with hr | ⟨hd, hp, hr⟩
  · omega
  cases ho : s.ring.out with
  | none =>
    obtain ⟨hi, hq⟩ := State.settled_idle h ho
    have e : s.ring.originated f = { s.ring with out := some f, streak := 0 } := by
      simp [RingPort.originated, ho]
    have hr' : s.mode = .repeater ∨ chooseNotice s.flags = none := by
      simpa [hq] using hr
    rw [e]
    refine (settle_step (p := (({ s.ring with out := some f, streak := 0 } : RingPort), s.flags)) ?_ ?_)
    · unfold settleStep
      rw [if_pos (by simp [RingPort.mustChoose, RingPort.push, ho])]
      simp only [RingPort.choose, RingPort.push, hi, hq, List.nil_append]
    · exact settled_of (by simp [RingPort.mustChoose]) (.inr ⟨hd, hp, .inr hr'⟩)
  | some g =>
    have e : s.ring.originated f = { s.ring with ownSend := s.ring.ownSend ++ [f] } := by
      simp [RingPort.originated, ho]
    rw [e]
    apply State.settle_of_settled
    refine settled_of (by simp [RingPort.mustChoose, RingPort.push, ho]) ?_
    refine .inr ⟨hd, hp, ?_⟩
    rcases hr with hr | hr
    · left; simp only [RingPort.push, List.length_append, List.length_singleton]; omega
    · exact .inr hr

/-- 01 R5, R8, R9: a received frame that is placed in the insertion queue. -/
theorem State.settle_insert (h : s.settled) (f : Frame) :
    State.settle { s with ring := { s.ring with insertion := s.ring.insertion ++ [f] } } =
      { s with ring := s.ring.passedOn f } := by
  obtain ⟨hm, hr⟩ := State.settled_cases h
  cases ho : s.ring.out with
  | none =>
    obtain ⟨hi, hq⟩ := State.settled_idle h ho
    have e : s.ring.passedOn f = { s.ring with out := some f, streak := 0 } := by
      simp [RingPort.passedOn, ho]
    rw [e]
    refine (settle_step (p := (({ s.ring with out := some f, streak := 0 } : RingPort), s.flags)) ?_ ?_)
    · unfold settleStep
      rw [if_pos (by simp [RingPort.mustChoose, ho])]
      simp only [RingPort.choose, hi, hq, List.nil_append]
    · exact settled_of (by simp [RingPort.mustChoose]) hr
  | some g =>
    have e : s.ring.passedOn f = { s.ring with insertion := s.ring.insertion ++ [f] } := by
      simp [RingPort.passedOn, ho]
    rw [e]
    apply State.settle_of_settled
    exact settled_of (by simp [RingPort.mustChoose, ho]) hr

/-- 01 R13; 02 R19: the answer to an order that finds a place. -/
theorem State.pushAnswer_settled (h : s.settled) (hl : s.ring.ownSend.length < 8) (src : OrderFrom)
    (code : Nat) (a : Answer) (data : List Byte) :
    s.pushAnswer src code a data = s.withAnswer src code a.code data :=
  State.settle_push h hl _

/-! ## Notices that follow an event -/

/-- What the moves keep while only notices can be due. -/
def NoticesFrom (r : RingPort) (p : RingPort × Tab 16 FlagRec) : Prop :=
  p.1.station = r.station ∧ p.1.insertion = r.insertion ∧ p.1.pendingCall = r.pendingCall ∧
    p.1.deferred = r.deferred ∧
    ∃ l : List Frame, (∀ f ∈ l, f.kind = .ntc) ∧ p.1.ownSend = r.ownSend ++ l ∧
      (p.1.out = r.out ∨ r.out = none ∧ ∃ f, p.1.out = some f ∧ f.kind = .ntc)

theorem settleStep_notices {m : Nat} {rep : Bool} {r : RingPort} {p p' : RingPort × Tab 16 FlagRec}
    (hidle : r.out = none → r.insertion = [] ∧ r.ownSend = [])
    (hwait : 8 ≤ r.ownSend.length ∨ r.deferred = none ∧ r.pendingCall = none)
    (h : settleStep m rep p = some p') (hp : NoticesFrom r p) : NoticesFrom r p' := by
  obtain ⟨h1, h2, h3, h4, l, hl, h5, h6⟩ := hp
  rcases settleStep_cases h with ⟨hc, rfl⟩ | ⟨-, hlt, ⟨f, hf, rfl⟩ | ⟨-, c, hcall, rfl⟩ |
    ⟨-, -, -, -, n, -, rfl⟩⟩
  · have ho : p.1.out = none := by
      simp only [RingPort.mustChoose, Bool.and_eq_true, Option.isNone_iff_eq_none] at hc; exact hc.1
    have hro : r.out = none := by rcases h6 with h6 | ⟨h6, -⟩ <;> simp_all
    obtain ⟨hi, hq⟩ := hidle hro
    rcases choose_cases p.1 with ⟨hi', hq', -⟩ | ⟨f, ins, hi', -⟩ | ⟨f, own, hq', e⟩
    · simp [RingPort.mustChoose, hi', hq'] at hc
    · simp [hi] at h2; simp [h2] at hi'
    · have hlo : f :: own = l := by rw [← hq', h5, hq, List.nil_append]
      subst hlo
      refine ⟨by simp [e, h1], by simp [e, h2], by simp [e, h3], by simp [e, h4], own,
        fun g hg => hl g (List.mem_cons_of_mem _ hg), by simp [e, hq], .inr ⟨hro, f, by simp [e],
        hl f List.mem_cons_self⟩⟩
  · rcases hwait with hw | ⟨hw, -⟩
    · rw [h5, List.length_append] at hlt; omega
    · rw [h4, hw] at hf; cases hf
  · rcases hwait with hw | ⟨-, hw⟩
    · rw [h5, List.length_append] at hlt; omega
    · rw [h3, hw] at hcall; cases hcall
  · refine ⟨h1, h2, h3, h4, l ++ [p.1.ownFrame .ntc m (noticePayload n (p.2.get n))], ?_, ?_, h6⟩
    · intro g hg
      rcases List.mem_append.mp hg with hg | hg
      · exact hl g hg
      · rw [List.mem_singleton] at hg; subst hg; rfl
    · simp [RingPort.pushOwn, h5]

/-- 11 R174 to R176: an event on a part with nothing due sends notices and nothing else. -/
theorem State.raiseFlag_noticesOnly (h : s.settled) (f : Flag) (n : Nat) (v : Int) :
    noticesOnly s (s.raiseFlag f n v) := by
  have hwait : 8 ≤ s.ring.ownSend.length ∨ s.ring.deferred = none ∧ s.ring.pendingCall = none := by
    rcases (State.settled_cases h).2 with h | ⟨h1, h2, -⟩
    · exact .inl h
    · exact .inr ⟨h1, h2⟩
  exact settleLoop_keeps (P := NoticesFrom s.ring)
    (fun p p' hs hp => settleStep_notices (State.settled_idle h) hwait hs hp) 12 _
    ⟨rfl, rfl, rfl, rfl, [], by simp, by simp, .inl rfl⟩

/-- 11 R174: an event touches the ring port and the notice unit alone. -/
theorem State.raiseFlag_ringOnly (f : Flag) (n : Nat) (v : Int) : ringOnly s (s.raiseFlag f n v) := rfl

end Sys2Proof.Machine
end

