-- ==== Sys2Proof/Laws/Orders.lean ====
section
/-! SUPPORT. What the arrival of a whole frame comes to (01, R2), and what the taking of an order comes to
(02, R19 to R22): said once, for the proofs that cite it. -/

namespace Sys2Proof.Machine

variable {s : State}

/-! ## Bytes -/

theorem byteOf_toNat {n : Nat} (h : n < 256) : (byteOf n).toNat = n := by
  simp [byteOf, BitVec.toNat_ofNat, Nat.mod_eq_of_lt h]

theorem checkPasses_sealed (body : List Byte) : checkPasses (sealedBytes body) = true := by
  have e : ((checkWord body).extractLsb' 8 8 ++ (checkWord body).extractLsb' 0 8 : BitVec 16) =
      checkWord body := by
    ext i hi
    simp only [BitVec.getElem_append, BitVec.getElem_extractLsb']
    split
    · simp [BitVec.getLsbD_eq_getElem (show i < 16 from hi)]
    · next h =>
      rw [show 8 + (i - 8) = i by omega, BitVec.getLsbD_eq_getElem (show i < 16 from hi)]
  simp [checkPasses, sealedBytes, e]

/-- 01, section 1.1: a frame as the outside sends it passes its tests and is the frame that is meant. -/
theorem State.frameArrives_frameBytes {dest origin hop tag : Nat} (kind : FrameKind) {payload : List Byte}
    (h : headerOk dest origin hop tag payload) :
    s.frameArrives (frameBytes dest origin hop kind tag payload) =
      s.dispatch { dest := dest, origin := origin, hop := hop, kind := kind, tag := tag, payload := payload
                   check := checkWord (frameBody dest origin hop kind tag payload) } := by
  obtain ⟨h1, h2, h3, h4, h5, h6⟩ := h
  have hc : checkPasses (frameBytes dest origin hop kind tag payload) = true := checkPasses_sealed _
  have e : ((checkWord (frameBody dest origin hop kind tag payload)).extractLsb' 8 8 ++
      (checkWord (frameBody dest origin hop kind tag payload)).extractLsb' 0 8 : BitVec 16) =
      checkWord (frameBody dest origin hop kind tag payload) := by
    ext i hi
    simp only [BitVec.getElem_append, BitVec.getElem_extractLsb']
    split
    · simp [BitVec.getLsbD_eq_getElem (show i < 16 from hi)]
    · next h =>
      rw [show 8 + (i - 8) = i by omega, BitVec.getLsbD_eq_getElem (show i < 16 from hi)]
  have hk : FrameKind.ofCode (byteOf kind.code).toNat = some kind := by cases kind <;> rfl
  have hlen : (frameBytes dest origin hop kind tag payload).length = 8 + payload.length := by
    simp [frameBytes, sealedBytes, frameBody]; omega
  have hl : (byteOf payload.length).toNat = payload.length := byteOf_toNat (by omega)
  have g : ∀ k, k < 6 → (frameBytes dest origin hop kind tag payload).getD k 0#8 =
      [byteOf dest, byteOf origin, byteOf hop, byteOf kind.code, byteOf tag,
        byteOf payload.length].getD k 0#8 := by
    intro k hk
    simp only [frameBytes, sealedBytes, frameBody, List.append_assoc]
    match k, hk with
    | 0, _ | 1, _ | 2, _ | 3, _ | 4, _ | 5, _ => rfl
  have g0 := g 0 (by omega); have g1 := g 1 (by omega); have g2 := g 2 (by omega)
  have g3 := g 3 (by omega); have g4 := g 4 (by omega); have g5 := g 5 (by omega)
  simp only [List.getD_cons_zero, List.getD_cons_succ] at g0 g1 g2 g3 g4 g5
  have hform : formTest (frameBytes dest origin hop kind tag payload) =
      some { dest := dest, origin := origin, hop := hop, kind := kind, tag := tag, payload := payload
             check := checkWord (frameBody dest origin hop kind tag payload) } := by
    unfold formTest
    simp only [g0, g1, g2, g3, g5, hlen, hl, hk, byteOf_toNat (show dest < 256 by omega),
      byteOf_toNat (show origin < 256 by omega), byteOf_toNat (show hop < 256 by omega)]
    rw [if_pos ⟨by omega, by omega, h6, trivial, h1, h2, h3, h4⟩]
    simp only [Option.map_some, readFrame, g0, g1, g2, g4, g5, hl,
      byteOf_toNat (show dest < 256 by omega), byteOf_toNat (show origin < 256 by omega),
      byteOf_toNat (show hop < 256 by omega), byteOf_toNat (show tag < 256 by omega)]
    congr 2
    · simp [frameBytes, sealedBytes, frameBody]
    · rw [← e]
      have d6 : (frameBytes dest origin hop kind tag payload)[6 + payload.length]? =
          some ((checkWord (frameBody dest origin hop kind tag payload)).extractLsb' 8 8) := by
        simp only [frameBytes, sealedBytes]
        rw [List.getElem?_append_right (by simp [frameBody]; omega)]
        rw [show 6 + payload.length - (frameBody dest origin hop kind tag payload).length = 0 by
          simp [frameBody]; omega]
        rfl
      have d7 : (frameBytes dest origin hop kind tag payload)[7 + payload.length]? =
          some ((checkWord (frameBody dest origin hop kind tag payload)).extractLsb' 0 8) := by
        simp only [frameBytes, sealedBytes]
        rw [List.getElem?_append_right (by simp [frameBody]; omega)]
        rw [show 7 + payload.length - (frameBody dest origin hop kind tag payload).length = 1 by
          simp [frameBody]; omega]
        rfl
      simp only [List.getD_eq_getElem?_getD, d6, d7, Option.getD_some]
  unfold State.frameArrives
  simp only [hc, Bool.not_true, Bool.false_eq_true, if_false, hform]

/-! ## The taking of an order -/

/-- 02 R19; 01 R13: an addressed order that the part accepts from its station. -/
theorem State.takeOrder_accepts {src : OrderFrom} (h : s.accepts src) (code : Nat) (form : Bool)
    (run : State → Taking) :
    s.takeOrder src code form run =
      let t := s.judgeOrder src.origin code form run
      t.act (if t.deferred then s else s.pushAnswer src code t.answer t.data) := by
  obtain ⟨h1, h2, h3, h4, -, h6⟩ := h
  have hh : s.hears src = true := by simp [State.hears, h2, h3, h4]
  simp only [State.takeOrder, hh, h1, State.takeAddressed, Bool.not_true, Bool.false_eq_true, if_false]
  rw [if_neg (by simp only [Config.ownPlaces]; omega)]

/-- 02 R19 to R21: an order of a known code and the right form that finds the store READY, or that the
store test does not concern. -/
theorem State.judgeOrder_run {origin code : Nat} (hm : s.profile.manager = 0 ∨ s.profile.manager = origin)
    (hc : 1 ≤ code ∧ code ≤ 15) (hs : s.store.state = .ready ∨ storeGated code = false)
    (run : State → Taking) : s.judgeOrder origin code true run = run s := by
  unfold State.judgeOrder
  rw [if_neg (by rcases hm with h | h <;> simp [State.managerAccepts, h]), if_neg (by omega),
    if_neg (by rcases hs with h | h <;> simp [h])]
  rfl

/-- An accepted order whose rule is reached, on a part with nothing due: the answer takes its place at the
ring port, unless it waits for a completion, and the effect follows. -/
theorem State.takeOrder_runs {src : OrderFrom} (h : s.accepts src) (hr : s.settled) {code : Nat}
    (hc : 1 ≤ code ∧ code ≤ 15) (hs : s.store.state = .ready ∨ storeGated code = false)
    (run : State → Taking) :
    s.takeOrder src code true run =
      (run s).act (if (run s).deferred then s else
        s.withAnswer src code (run s).answer.code (run s).data) := by
  rw [State.takeOrder_accepts h, State.judgeOrder_run h.2.2.2.2.1 hc hs]
  simp only [State.pushAnswer_settled hr h.2.2.2.2.2]

end Sys2Proof.Machine
end

