-- ==== Sys2Proof/Laws/Quiet.lean ====
section
/-! SUPPORT. The frame that most of the part's work shares. A piece of work is *calm* when it touches
only the loop records, what is asked of the heads (commanded values, wants, travels), the modulator, the
exercise, and the ring port and notice unit as a raised flag does. It is *quiet* when, besides, the loop
records keep their configuration and what the balancing engine holds in them. -/

namespace Sys2Proof.Machine

/-- What quiet work keeps of a loop record. -/
structure LoopKept (l l' : LoopRec) : Prop where
  cfg : l'.cfg = l.cfg
  b : l'.b = l.b
  degraded : l'.degraded = l.degraded
  spreadSum : l'.spreadSum = l.spreadSum
  spreadCount : l'.spreadCount = l.spreadCount
  spoiled : l'.spoiled = l.spoiled

/-- What calm work keeps of a head record. -/
structure HeadKept (h h' : Head) : Prop where
  present : h'.present = h.present
  kind : h'.kind = h.kind
  timing : h'.timing = h.timing
  acked : h'.acked = h.acked
  position : h'.position = h.position
  misses : h'.misses = h.misses
  unreachable : h'.unreachable = h.unreachable
  reswitched : h'.reswitched = h.reswitched
  confirming : h'.confirming = h.confirming
  reprobeCount : h'.reprobeCount = h.reprobeCount
  reprobeTiming : h'.reprobeTiming = h.reprobeTiming
  firstMiss : h'.firstMiss = h.firstMiss
  missTiming : h'.missTiming = h.missTiming

theorem LoopKept.refl (l : LoopRec) : LoopKept l l := ⟨rfl, rfl, rfl, rfl, rfl, rfl⟩

theorem LoopKept.trans {a b c : LoopRec} (h : LoopKept a b) (k : LoopKept b c) : LoopKept a c :=
  ⟨k.cfg.trans h.cfg, k.b.trans h.b, k.degraded.trans h.degraded, k.spreadSum.trans h.spreadSum,
    k.spreadCount.trans h.spreadCount, k.spoiled.trans h.spoiled⟩

theorem HeadKept.refl (h : Head) : HeadKept h h :=
  ⟨rfl, rfl, rfl, rfl, rfl, rfl, rfl, rfl, rfl, rfl, rfl, rfl, rfl⟩

theorem HeadKept.trans {a b c : Head} (h : HeadKept a b) (k : HeadKept b c) : HeadKept a c :=
  ⟨k.present.trans h.present, k.kind.trans h.kind, k.timing.trans h.timing, k.acked.trans h.acked,
    k.position.trans h.position, k.misses.trans h.misses, k.unreachable.trans h.unreachable,
    k.reswitched.trans h.reswitched, k.confirming.trans h.confirming,
    k.reprobeCount.trans h.reprobeCount, k.reprobeTiming.trans h.reprobeTiming,
    k.firstMiss.trans h.firstMiss, k.missTiming.trans h.missTiming⟩

/-- Calm work (see the head of the file). -/
structure Calm (s t : State) : Prop where
  pending : t.pending = s.pending
  mode : t.mode = s.mode
  startRounds : t.startRounds = s.startRounds
  interval : t.interval = s.interval
  store : t.store = s.store
  profile : t.profile = s.profile
  binding : t.binding = s.binding
  rooms : t.rooms = s.rooms
  channels : t.channels = s.channels
  converter : t.converter = s.converter
  roundPos : t.roundPos = s.roundPos
  interrupted : t.interrupted = s.interrupted
  opening : t.opening = s.opening
  string : t.string = s.string
  windows : t.windows = s.windows
  station : t.ring.station = s.ring.station
  ring : s.ringGood → t.ringGood
  sends : ∀ f, s.sends f → t.sends f
  heads : ∀ i, HeadKept (s.heads.get i) (t.heads.get i)

/-- Quiet work (see the head of the file). -/
structure Quiet (s t : State) : Prop extends Calm s t where
  loops : ∀ i, LoopKept (s.loops.get i) (t.loops.get i)

variable {s t u : State}

theorem Calm.refl (s : State) : Calm s s where
  pending := rfl
  mode := rfl
  startRounds := rfl
  interval := rfl
  store := rfl
  profile := rfl
  binding := rfl
  rooms := rfl
  channels := rfl
  converter := rfl
  roundPos := rfl
  interrupted := rfl
  opening := rfl
  string := rfl
  windows := rfl
  station := rfl
  ring := id
  sends := fun _ => id
  heads := fun _ => .refl _

theorem Calm.trans (h : Calm s t) (k : Calm t u) : Calm s u where
  pending := k.pending.trans h.pending
  mode := k.mode.trans h.mode
  startRounds := k.startRounds.trans h.startRounds
  interval := k.interval.trans h.interval
  store := k.store.trans h.store
  profile := k.profile.trans h.profile
  binding := k.binding.trans h.binding
  rooms := k.rooms.trans h.rooms
  channels := k.channels.trans h.channels
  converter := k.converter.trans h.converter
  roundPos := k.roundPos.trans h.roundPos
  interrupted := k.interrupted.trans h.interrupted
  opening := k.opening.trans h.opening
  string := k.string.trans h.string
  windows := k.windows.trans h.windows
  station := k.station.trans h.station
  ring := k.ring ∘ h.ring
  sends := fun f => k.sends f ∘ h.sends f
  heads := fun i => (h.heads i).trans (k.heads i)

theorem Quiet.refl (s : State) : Quiet s s := { Calm.refl s with loops := fun _ => .refl _ }

theorem Quiet.trans (h : Quiet s t) (k : Quiet t u) : Quiet s u :=
  { h.toCalm.trans k.toCalm with loops := fun i => (h.loops i).trans (k.loops i) }

/-- `Quiet.trans` for a chain read from its end. -/
theorem Quiet.after (k : Quiet t u) (h : Quiet s t) : Quiet s u := h.trans k

/-- The room of a loop that is bound, and its kind, are part of the configuration. -/
theorem Quiet.bound (h : Quiet s t) (i : Fin 16) : t.bound i = s.bound i := by
  simp [State.bound, (h.loops i).cfg]

theorem Quiet.boundKind (h : Quiet s t) (i : Fin 16) : t.boundKind i = s.boundKind i := by
  simp [State.boundKind, h.bound i, (h.loops i).cfg]

/-- Work done for every index keeps what each piece of it keeps. -/
theorem forEach_rel {R : State → State → Prop} (hr : ∀ s, R s s)
    (ht : ∀ s t u, R s t → R t u → R s u) {n : Nat} {f : Fin n → State → State}
    (hf : ∀ i s, R s (f i s)) (s : State) : R s (forEach n f s) := by
  have key : ∀ (l : List (Fin n)) (s : State), R s (l.foldl (fun s i => f i s) s) := by
    intro l
    induction l with
    | nil => exact hr
    | cons i l ih => exact fun s => ht _ _ _ (hf i s) (ih _)
  exact key _ s

theorem Quiet.forEach {n : Nat} {f : Fin n → State → State} (hf : ∀ i s, Quiet s (f i s))
    (s : State) : Quiet s (Machine.forEach n f s) :=
  forEach_rel .refl (fun _ _ _ => .trans) hf s

theorem Calm.forEach {n : Nat} {f : Fin n → State → State} (hf : ∀ i s, Calm s (f i s))
    (s : State) : Calm s (Machine.forEach n f s) :=
  forEach_rel .refl (fun _ _ _ => .trans) hf s

theorem Quiet.doWhen {c : Bool} {f : State → State} (hf : Quiet s (f s)) :
    Quiet s (Machine.doWhen c f s) := by
  cases c
  · exact .refl s
  · exact hf

/-! ## The updates -/

/-- A loop update that keeps configuration and balancing data is quiet. -/
theorem Quiet.setLoop {i : Fin 16} {f : LoopRec → LoopRec} (hf : ∀ l, LoopKept l (f l)) :
    Quiet s (s.setLoop i f) :=
  { Calm.refl s with
    loops := fun j => by
      rw [State.setLoop_get]
      split
      · next e => subst e; exact hf _
      · exact .refl _ }

/-- Any loop update is calm. -/
theorem Calm.setLoop {i : Fin 16} {f : LoopRec → LoopRec} : Calm s (s.setLoop i f) :=
  { Calm.refl s with }

/-- A head update of commanded value, wants or travel is quiet. -/
theorem Quiet.setHead {i : Fin 16} {f : Head → Head} (hf : ∀ h, HeadKept h (f h)) :
    Quiet s (s.setHead i f) :=
  { Quiet.refl s with
    heads := fun j => by
      rw [State.setHead_get]
      split
      · next e => subst e; exact hf _
      · exact .refl _ }

theorem Quiet.setRec (i : Fin 16) (r : Option ModRec) : Quiet s (s.setRec i r) :=
  { Quiet.refl s with }

theorem Quiet.setQueue (q : List (Fin 16)) : Quiet s (s.setQueue q) := { Quiet.refl s with }

theorem Quiet.setModulator (m : Modulator) : Quiet s { s with modulator := m } := { Quiet.refl s with }

theorem Quiet.setExercise (e : Exercise) : Quiet s { s with exercise := e } := { Quiet.refl s with }

theorem Quiet.raiseFlag (f : Flag) (n : Nat) (v : Int) : Quiet s (s.raiseFlag f n v) :=
  { Quiet.refl s with
    station := State.raiseFlag_station s f n v
    ring := fun h => State.raiseFlag_ringGood s f n v h.1
    sends := fun _ h => State.raiseFlag_sends s f n v h }

/-! ## Wants (09, R143, R144) -/

theorem Quiet.judgeDrive (i : Fin 16) : Quiet s (s.judgeDrive i) := by
  unfold State.judgeDrive
  split
  · exact .refl s
  · split
    · exact .after (.doWhen (.setLoop fun _ => ⟨rfl, rfl, rfl, rfl, rfl, rfl⟩)) (.setHead fun _ => ⟨rfl, rfl, rfl, rfl, rfl, rfl, rfl, rfl, rfl, rfl, rfl, rfl, rfl⟩)
    · exact .refl s

theorem Quiet.handCommanded (i : Fin 16) (v : Int) : Quiet s (s.handCommanded i v) :=
  .after (.judgeDrive i) (.setHead fun _ => ⟨rfl, rfl, rfl, rfl, rfl, rfl, rfl, rfl, rfl, rfl, rfl, rfl, rfl⟩)

theorem Quiet.wantProbe (i : Fin 16) : Quiet s (s.wantProbe i) :=
  .setHead fun _ => ⟨rfl, rfl, rfl, rfl, rfl, rfl, rfl, rfl, rfl, rfl, rfl, rfl, rfl⟩

theorem Quiet.requestClose (i : Fin 16) (k : HeadKind) : Quiet s (s.requestClose i k) :=
  .setHead fun h => by
    split
    · exact .refl h
    · exact ⟨rfl, rfl, rfl, rfl, rfl, rfl, rfl, rfl, rfl, rfl, rfl, rfl, rfl⟩

theorem Quiet.endTravel (i : Fin 16) : Quiet s (s.endTravel i) :=
  .setHead fun _ => ⟨rfl, rfl, rfl, rfl, rfl, rfl, rfl, rfl, rfl, rfl, rfl, rfl, rfl⟩

/-! ## The modulator (10) -/

theorem Quiet.startCount (i : Fin 16) : Quiet s (s.startCount i) := by
  unfold State.startCount
  split
  · split
    · exact .setExercise _
    · exact .refl s
  · exact .refl s

theorem Quiet.grantStep (h : s.grantStep = some t) : Quiet s t := by
  unfold State.grantStep at h
  split at h
  · cases h
  · next i rest _ =>
    split at h
    · split at h
      · cases h; exact .setQueue _
      · next r _ =>
        have base : Quiet s (((s.setQueue rest).setRec i (some { r with state := .granted })).handCommanded
            i Config.full) := ((Quiet.setQueue _).trans (.setRec _ _)).trans (.handCommanded _ _)
        dsimp only at h
        split at h
        · cases h; exact (base.trans (.setRec _ _)).trans (.startCount _)
        · cases h; exact base
    · cases h

theorem Quiet.grantLoop : ∀ (k : Nat) (s : State), Quiet s (Machine.grantLoop k s)
  | 0, s => .refl s
  | k + 1, s => by
    unfold Machine.grantLoop
    split
    · next t h => exact (Quiet.grantStep h).trans (Quiet.grantLoop k t)
    · exact .refl s

theorem Quiet.grants : Quiet s s.grants := .grantLoop 16 s

theorem Quiet.switchedOff (i : Fin 16) (r : ModRec) : Quiet s (s.switchedOff i r) :=
  (Quiet.setRec _ _).trans (.handCommanded _ _)

theorem Quiet.switchOff (i : Fin 16) (r : ModRec) : Quiet s (s.switchOff i r) :=
  (Quiet.switchedOff i r).trans .grants

theorem Quiet.withdraw (i : Fin 16) (r : ModRec) : Quiet s (s.withdraw i r) :=
  (Quiet.setQueue _).trans (.setRec _ _)

theorem Quiet.modIdle (i : Fin 16) : Quiet s (s.modIdle i) := by
  unfold State.modIdle
  split
  · exact .refl s
  · split
    · exact .refl s
    · exact .withdraw _ _
    all_goals exact .switchOff _ _

theorem Quiet.makeRec (i : Fin 16) : Quiet s (s.makeRec i) :=
  (Quiet.setRec _ _).trans (.handCommanded _ _)

theorem Quiet.dropRec (i : Fin 16) : Quiet s (s.dropRec i) :=
  ((Quiet.setQueue _).trans (.setRec _ _)).trans .grants

theorem Quiet.exerciseRequest (i : Fin 16) : Quiet s (s.exerciseRequest i) := by
  unfold State.exerciseRequest
  split
  · exact .refl s
  · exact ((Quiet.setQueue _).trans (.setRec _ _)).trans .grants

theorem Quiet.switchOnAcked (i : Fin 16) : Quiet s (s.switchOnAcked i) := by
  unfold State.switchOnAcked
  split
  · exact .refl s
  · split
    · exact .setRec _ _
    · exact .refl s

theorem Quiet.notCarriedOut (i : Fin 16) : Quiet s (s.notCarriedOut i) := by
  unfold State.notCarriedOut
  split
  · exact .refl s
  · split
    · exact .switchOff _ _
    · exact .refl s

theorem Quiet.modAlarm : Quiet s s.modAlarm :=
  .after (.forEach (fun i s => by
    split
    · exact .handCommanded _ _
    · exact .refl s) _) (.setModulator _)

theorem Quiet.reportSettled (i : Fin 16) : Quiet s (s.reportSettled i) := by
  unfold State.reportSettled
  split
  · exact .setLoop fun _ => ⟨rfl, rfl, rfl, rfl, rfl, rfl⟩
  · exact .refl s

theorem Quiet.warmComplete (i : Fin 16) : Quiet s (s.warmComplete i) := by
  unfold State.warmComplete
  split
  · exact .refl s
  · split
    · exact ((Quiet.setRec _ _).trans (.reportSettled _)).trans .grants
    · exact .refl s

theorem Quiet.starve (i : Fin 16) (r : ModRec) : Quiet s (s.starve i r) :=
  (Quiet.withdraw _ _).trans (.raiseFlag _ _ _)

theorem Quiet.switchSlot (i : Fin 16) (b : Bool) : Quiet s (s.switchSlot i b) := by
  unfold State.switchSlot
  split
  · exact .refl s
  · dsimp only
    split
    · exact .refl s
    · split
      · exact .starve _ _
      · exact .refl s
    all_goals
      split
      · exact .switchOff _ _
      · exact .refl s

theorem Quiet.startPeriod (i : Fin 16) : Quiet s (s.startPeriod i) := by
  unfold State.startPeriod
  split
  · exact .refl s
  · dsimp only
    split
    · exact .setRec _ _
    · exact .setRec _ _
    all_goals
      split
      · exact .switchedOff _ _
      · exact .setRec _ _

theorem Quiet.startPeriods (l : List (Fin 16)) : Quiet s (s.startPeriods l) := by
  unfold State.startPeriods
  have key : ∀ (l : List (Fin 16)) (s : State), Quiet s (l.foldl (fun t i => t.startPeriod i) s) := by
    intro l
    induction l with
    | nil => exact .refl
    | cons i l ih => exact fun s => (Quiet.startPeriod i).trans (ih _)
  exact ((key l s).trans (.setQueue _)).trans .grants

theorem Quiet.reportOn (i : Fin 16) : Quiet s (s.reportOn i) := by
  unfold State.reportOn
  split
  · exact .reportSettled _
  · exact .refl s

theorem Quiet.modExpiry : Quiet s s.modExpiry := by
  unfold State.modExpiry
  dsimp only
  refine .after (.forEach (fun i s => .reportOn i) _) (.after (.startPeriods _)
    (.after (.forEach (fun i s => ?_) _) (.after (.forEach (fun i s => .warmComplete i) _) (.setModulator _))))
  split
  · exact .switchSlot _ _
  · exact .refl s

theorem Quiet.modProfile (old : Profile) : Quiet s (s.modProfile old) :=
  .doWhen .grants

/-! ## Targets and loop events (06; 08) -/

theorem Quiet.handTarget (i : Fin 16) : Quiet s (s.handTarget i) := by
  unfold State.handTarget
  split
  · exact .refl s
  · split
    · exact .refl s
    · exact .handCommanded _ _
  · split
    · exact .modIdle _
    · exact .refl s

theorem Quiet.setO (i : Fin 16) (v : Int) : Quiet s (s.setO i v) :=
  .after (.handTarget i) (.setLoop fun _ => ⟨rfl, rfl, rfl, rfl, rfl, rfl⟩)

theorem Quiet.retarget (i : Fin 16) : Quiet s (s.retarget i) := .setO _ _

theorem LoopKept.countDown (l : LoopRec) : LoopKept l l.countDown := by
  unfold LoopRec.countDown
  dsimp only
  split <;> exact ⟨rfl, rfl, rfl, rfl, rfl, rfl⟩

theorem LoopKept.judge (w : Nat) (l : LoopRec) : LoopKept l (l.judge w) := by
  unfold LoopRec.judge
  split
  · split
    · exact ⟨rfl, rfl, rfl, rfl, rfl, rfl⟩
    · exact .refl l
  · split
    · exact .countDown l
    · exact ⟨rfl, rfl, rfl, rfl, rfl, rfl⟩
  · split
    · split
      · exact ⟨rfl, rfl, rfl, rfl, rfl, rfl⟩
      · exact .refl l
    · exact ⟨rfl, rfl, rfl, rfl, rfl, rfl⟩
  · exact .refl l

/-- Each loop record may be replaced by one that keeps what LoopKept names. -/
theorem Quiet.withLoops {ls : Tab 16 LoopRec} (h : ∀ i, LoopKept (s.loops.get i) (ls.get i)) :
    Quiet s { s with loops := ls } :=
  { Calm.refl s with loops := h }

theorem Quiet.writeTargets : Quiet s s.writeTargets :=
  .after
    (.withLoops fun i => by rw [Tab.get_map]; exact .judge _ _)
    (.after (.forEach (fun i s => .handTarget i) _)
      (.withLoops fun i => by rw [Tab.get_mapIdx]; exact ⟨rfl, rfl, rfl, rfl, rfl, rfl⟩))

theorem Quiet.beginOpenPhase (i : Fin 16) (l : List (Fin 16)) : Quiet s (s.beginOpenPhase i l) := by
  unfold State.beginOpenPhase
  dsimp only
  split
  · exact .after (.exerciseRequest _)
      (.after (.retarget _) (.after (.setLoop fun _ => ⟨rfl, rfl, rfl, rfl, rfl, rfl⟩) (.setExercise _)))
  · exact .after (.retarget _) (.after (.setLoop fun _ => ⟨rfl, rfl, rfl, rfl, rfl, rfl⟩) (.setExercise _))

theorem Quiet.turnFrom : ∀ (l : List (Fin 16)) (s : State), Quiet s (Machine.turnFrom l s)
  | [], _ => .setExercise _
  | i :: rest, s => by
    unfold Machine.turnFrom
    split
    · exact Quiet.turnFrom rest s
    · exact .beginOpenPhase _ _

theorem Quiet.takeTurn : Quiet s s.takeTurn := by
  unfold State.takeTurn
  split
  · exact .refl s
  · split
    · exact .setExercise _
    · exact .turnFrom _ _

theorem Quiet.beginClosePhase (i : Fin 16) : Quiet s (s.beginClosePhase i) := by
  unfold State.beginClosePhase
  dsimp only
  split
  · exact .after (.modIdle _) (.after (.retarget _) (.setExercise _))
  · exact .after (.retarget _) (.setExercise _)

theorem Quiet.endClosePhase (i : Fin 16) : Quiet s (s.endClosePhase i) :=
  .after .takeTurn (.after (.setO _ _) (.after (.setExercise _) (.setLoop fun _ => ⟨rfl, rfl, rfl, rfl, rfl, rfl⟩)))

theorem Quiet.endPhase (t : Turn) : Quiet s (s.endPhase t) := by
  unfold State.endPhase
  split
  · exact .beginClosePhase _
  · exact .endClosePhase _

theorem Quiet.countPhase : Quiet s s.countPhase := by
  unfold State.countPhase
  split
  · exact .refl s
  · split
    · exact .endPhase _
    · exact .setExercise _

theorem Quiet.dueTurn : Quiet s s.dueTurn := by
  unfold State.dueTurn
  split
  · exact .takeTurn
  · exact .refl s

theorem Quiet.startExercise : Quiet s s.startExercise := by
  unfold State.startExercise
  split
  · exact .refl s
  · exact .after .takeTurn (.setExercise _)

theorem Quiet.leaveExercise (i : Fin 16) : Quiet s (s.leaveExercise i) := by
  unfold State.leaveExercise
  split
  · exact .setExercise _
  · exact .refl s

theorem Quiet.quitExercise (i : Fin 16) : Quiet s (s.quitExercise i) := by
  unfold State.quitExercise
  split
  · exact .after (.modIdle _) (.leaveExercise _)
  · exact .refl s

theorem Quiet.endExercise : Quiet s s.endExercise := by
  unfold State.endExercise
  dsimp only
  split
  · exact .setExercise _
  · exact .after (.setO _ _) (.after (.setLoop fun _ => ⟨rfl, rfl, rfl, rfl, rfl, rfl⟩) (.after (.modIdle _) (.setExercise _)))

theorem Quiet.holdLoop (i : Fin 16) (v : Int) : Quiet s (s.holdLoop i v) := by
  unfold State.holdLoop
  dsimp only
  split
  · exact .after .takeTurn (.after (.retarget _) (.after (.setLoop fun _ => ⟨rfl, rfl, rfl, rfl, rfl, rfl⟩) (.quitExercise _)))
  · exact .after (.retarget _) (.after (.setLoop fun _ => ⟨rfl, rfl, rfl, rfl, rfl, rfl⟩) (.quitExercise _))

theorem Quiet.releaseLoop (i : Fin 16) : Quiet s (s.releaseLoop i) :=
  .after (.setO _ _) (.setLoop fun _ => ⟨rfl, rfl, rfl, rfl, rfl, rfl⟩)

theorem Quiet.clearFault (i : Fin 16) : Quiet s (s.clearFault i) := by
  unfold State.clearFault
  dsimp only
  split
  · exact (Quiet.releaseLoop _).trans (.wantProbe _)
  · exact .releaseLoop _

theorem Quiet.faultEvent (i : Fin 16) (r : FaultReason) : Quiet s (s.faultEvent i r) := by
  unfold State.faultEvent
  dsimp only
  split
  · exact .refl s
  · split
    · exact .after (.retarget _) (.setLoop fun _ => ⟨rfl, rfl, rfl, rfl, rfl, rfl⟩)
    · exact .refl s
  · split
    · exact .after .takeTurn (.after (.retarget _) (.after (.setLoop fun _ => ⟨rfl, rfl, rfl, rfl, rfl, rfl⟩) (.quitExercise _)))
    · exact .after (.retarget _) (.after (.setLoop fun _ => ⟨rfl, rfl, rfl, rfl, rfl, rfl⟩) (.quitExercise _))

theorem Quiet.stallEvent (i : Fin 16) : Quiet s (s.stallEvent i) := by
  unfold State.stallEvent
  split
  · exact (Quiet.faultEvent _ _).trans (.raiseFlag _ _ _)
  · exact .refl s

theorem Quiet.kindEvent (i : Fin 16) (k : HeadKind) : Quiet s (s.kindEvent i k) := by
  unfold State.kindEvent
  split
  · exact (Quiet.faultEvent _ _).trans (.raiseFlag _ _ _)
  · exact .refl s

theorem Quiet.catchUnreachable : Quiet s s.catchUnreachable :=
  .forEach (fun i s => by
    split
    · exact .faultEvent _ _
    · exact .refl s) _

theorem Quiet.headReleases (i : Fin 16) : Quiet s (s.headReleases i) := by
  unfold State.headReleases
  dsimp only
  split
  · exact .releaseLoop _
  · exact .refl s

theorem Quiet.alarmExercise : Quiet s s.alarmExercise := by
  unfold State.alarmExercise
  split
  · split
    · exact .beginClosePhase _
    · exact .refl s
  · exact .refl s

end Sys2Proof.Machine
end

