-- ==== Sys2Proof/Tests/Slice0.lean ====
section
/-! SUPPORT. Tests of the model against the worked cases of the spec, the refusals of the well-formedness
check, and for every statement with hypotheses a state and operands that meet them. -/

open Sys2Proof Sys2Proof.Machine

namespace Sys2Proof.Tests

set_option maxRecDepth 100000

/-! ## The well-formedness check refuses -/

theorem test_reading_below_span : (Instr.conversionResult 0 (.reading (-3501))).wellFormed = false := by
  decide
theorem test_reading_above_span : (Instr.channelFresh 0 (.reading 10001)).wellFormed = false := by decide
theorem test_thermal_blocked :
    (Instr.headAnswer 0 (.probed .thermal 1000 true)).wellFormed = false := by decide
theorem test_thermal_half_open :
    (Instr.headAnswer 0 (.probed .thermal 500 false)).wellFormed = false := by decide
theorem test_origin_zero : (Instr.status ⟨0, 1, false⟩ []).wellFormed = false := by decide
theorem test_origin_high : (Instr.status ⟨32, 1, false⟩ []).wellFormed = false := by decide
theorem test_tag_high : (Instr.status ⟨1, 256, false⟩ []).wellFormed = false := by decide
theorem test_payload_long :
    (Instr.read ⟨1, 1, false⟩ (List.replicate 24 0#8)).wellFormed = false := by decide
theorem test_known_code : (Instr.orderUnknown ⟨1, 1, false⟩ 15#8 []).wellFormed = false := by decide
theorem test_well_formed : (Instr.hold ⟨1, 1, false⟩ [0#8, 1#8, 0#8]).wellFormed = true := by decide

/-- The table gives bits to no row. -/
theorem test_no_word : decodeTableWord 16 0 = none := by decide

/-! ## Worked cases of the spec -/

/-- 00, Rounding; 05, section 5.8; 07, section 7.5. -/
theorem test_half_even : divRound (-25) 10 = -2 ∧ divRound (-35) 10 = -4 ∧ divRound 45000 6000 = 8 ∧
    divRound (-9000) 6000 = -2 ∧ divRound 20050 100 = 200 ∧ divRound 5025 10 = 502 := by decide

/-- 01 R1: the check of the ASCII digits 1 to 9 under this generator, preset and no inversion is 29B1H. -/
theorem test_check : checkWord [0x31#8, 0x32#8, 0x33#8, 0x34#8, 0x35#8, 0x36#8, 0x37#8, 0x38#8, 0x39#8] =
    0x29B1#16 := by decide

/-- 04, section 4.3, Worked cases. -/
theorem test_filtered :
    filteredOf [3012, 3008, 3015, 3011, 3010, 3009, 3013, 3014, 2000, 2000] = some 3012 ∧
      filteredOf [3011, 3010] = some 3010 ∧ filteredOf [-505, -506] = some (-506) := by decide

/-- 08, section 8.1, Worked cases: loops 0 to 5. -/
theorem test_openings :
    let c := LoopCfg.factory 0
    [regulatedOpening c 640 885, regulatedOpening c 500 885, regulatedOpening c 100 696,
      regulatedOpening { c with oMax := 800 } 1000 1000, regulatedOpening c 1 400,
      regulatedOpening c 3 500] = [566, 442, 150, 800, 0, 150] := by decide

/-- 08, section 8.1, Worked cases: loops 6 and 7. -/
theorem test_fixed_openings : fixedOpening (.factory 0) 100 = 150 ∧
    fixedOpening { LoopCfg.factory 0 with oMax := 250 } 300 = 250 := by decide

/-- 10 R160: O 566 with period 20 gives 14 on-slots, O 20 gives none. -/
theorem test_on_slots : onSlotsOf .factory 566 = 14 ∧ onSlotsOf .factory 20 = 0 := by decide

/-- 07, section 7.6, Worked sequence. -/
theorem test_seeds : seedOf 100 88000 { LoopCfg.factory 1 with heat := 700, length := 60 } = 477 ∧
    seedOf 100 216000 { LoopCfg.factory 3 with heat := 200, length := 25 } = 100 := by decide

/-- 07, section 7.5: a mean spread of 530 with target 500 lies within a deadband of 30. -/
theorem test_deadband : updatedFactor .factory 5305 700 = 700 := by decide

/-! ## Small states -/

/-- A part in HEATING with factory tables and the store READY. -/
def base : State :=
  { State.reset with
    mode := .heating, store := { State.reset.store with state := .ready, powerUp := false } }

/-- The house controller's order source. -/
def src : OrderFrom := ⟨1, 7, false⟩

/-- The same as a broadcast. -/
def bsrc : OrderFrom := ⟨1, 7, true⟩

/-- A broadcast is acceptable. -/
def hearing : State := { base with profile := { Profile.factory with broadcast := true } }

/-- A frame that is neither the part's own nor a CALL. -/
def someFrame : Frame :=
  { dest := 9, origin := 8, hop := 3, kind := .ans, tag := 1, payload := [], check := 0#16 }

/-- A part that is sending. -/
def busy : State := { base with ring := { base.ring with out := some someFrame } }

/-- A part that is sending, with `n` frames in the own-send queue. -/
def queued (n : Nat) : State :=
  { base with ring := { base.ring with out := some someFrame, ownSend := List.replicate n someFrame } }

/-- A bound loop's configuration. -/
def loopCfg (k : HeadKind) : LoopCfg := { LoopCfg.factory 0 with room := some 0, kind := some k }

/-- The modulation record of a newly bound loop. -/
def recOf : HeadKind → Option ModRec
  | .motor => none
  | .thermal => some { state := .idle, onSlots := 0, slotPos := 0, warmCount := 0, starved := false }

/-- A part with loop 0 bound, its record changed by `f`. -/
def withLoop (k : HeadKind) (f : LoopRec → LoopRec) : State :=
  { base with
    loops := base.loops.set 0 (f (.cleared (loopCfg k) .closed (some 1000)))
    modulator := { base.modulator with recs := base.modulator.recs.set 0 (recOf k) } }

/-- A part with a LEARNED entry at index 0 and a BOUND one at index 1. -/
def heard : State :=
  { base with
    binding := (base.binding.set 0 (.learned 9 0 2100 3)).set 1 (.bound 10 0 none 4)
    rooms := base.rooms.set 0 (.cleared .factory .waiting) }

/-- Loop 0 in a phase of its exercise. -/
def exercising (p : Phase) (list : List (Fin 16)) : State :=
  { withLoop .motor fun l => { l with state := .exercise } with
    mode := .summer
    exercise := { running := true, list := list, turnDue := false
                  current := some { loop := 0, phase := p, count := some 2 } } }

/-- A part with loop 0 OPEN at 500. -/
def opened (k : HeadKind) : State := withLoop k fun l => { l with state := .open, o := 500, openRef := some 500 }

/-- The invariant of the loops, from what can be read off. -/
theorem loopsOk_of {s : State} (h1 : ∀ i, (s.loops.get i).state = .unbound ↔ s.bound i = false)
    (h2 : ∀ i, (s.modulator.recs.get i).isSome = true ↔ s.boundKind i = some .thermal)
    (h3 : ∀ i, (s.loops.get i).state = .exercise ↔ s.exercise.current.map Turn.loop = some i)
    (h4 : s.exercise.current.isSome = true → s.exercise.running = true ∧ s.exercise.turnDue = false)
    (h5 : s.starting = true → ∀ i, s.bound i = false) : s.loopsOk :=
  ⟨h1, h2, fun i => (h3 i).trans (by simp), h4, h5⟩

/-- The invariant of the ranks, from what can be read off. -/
theorem ranksOk_of {s : State}
    (h1 : ∀ i, ∀ k ∈ (s.binding.get i).rank, k < learnedCount s.binding)
    (h2 : ∀ i j, (s.binding.get i).rank.isSome = true →
      (s.binding.get i).rank = (s.binding.get j).rank → i = j) : s.ranksOk :=
  ⟨fun i k h => h1 i k h, fun i j k hi hj => h2 i j (by rw [hi]; rfl) (hi.trans hj.symm)⟩

/-- The invariant of the waiting queue, from what can be read off. -/
theorem queueOk_of {s : State} (h1 : s.modulator.queue.Nodup)
    (h2 : ∀ i, s.modulator.queue.contains i =
      (s.modulator.recs.get i).any fun m => m.state == .waiting) : s.queueOk := by
  refine ⟨h1, fun i => ?_⟩
  rw [← List.contains_iff_mem, h2 i, Option.any_eq_true]
  simp only [beq_iff_eq]

theorem queueOk_base : base.queueOk := queueOk_of (by decide) (by decide)
theorem loopsOk_base : base.loopsOk :=
  loopsOk_of (by decide) (by decide) (by decide) (by decide) (by decide)
theorem loopsOk_motor : (withLoop .motor id).loopsOk :=
  loopsOk_of (by decide) (by decide) (by decide) (by decide) (by decide)
theorem loopsOk_thermal : (withLoop .thermal id).loopsOk :=
  loopsOk_of (by decide) (by decide) (by decide) (by decide) (by decide)
theorem ranksOk_heard : heard.ranksOk := ranksOk_of (by decide) (by decide)
theorem ranksOk_base : base.ranksOk := ranksOk_of (by decide) (by decide)
theorem requestOk_base : base.requestOk := by
  refine ⟨by decide, by decide, by decide, by unfold ImageData.limitsOk; decide, ?_⟩
  intro d h; cases h

/-! ## One step on a small state -/

/-- 01, section 1.4: an idle part sends an answer at once (02, section 2.1: MODE is refused in START). -/
theorem test_answer_sent :
    (match exec (.mode src [1#8]) { base with mode := .start } with
      | .next t => t.ring.out.map Frame.payload
      | _ => none) = some [5#8, 4#8] := by decide

/-- 06 R98; 08 R128: HOLD at 100 opens to O_min 150 and commands the motor head there. -/
theorem test_hold :
    (match exec (.hold src [0#8, 0#8, 100#8]) (withLoop .motor id) with
      | .next t => ((t.loops.get 0).o, (t.heads.get 0).commanded)
      | _ => (0, none)) = (150, some 150) := by decide

/-- 09 R154: a supply that dips while a broadcast is under way keeps the switch as requested. -/
theorem test_dip_keeps_switch :
    (match exec .stringSupplyDip { base with
        string := { base.string with monitor := .good, broadcast := some .fast } } with
      | .next t => (t.string.requested, t.string.broadcast)
      | _ => (none, none)) = (some .fast, none) := by decide

/-- 11 R174, R176: an event on an idle part sends its notice at once. -/
theorem test_notice_sent :
    (match exec (.frameArrival [0xFF#8, 0xFF#8]) base with
      | .next t => t.ring.out.map Frame.payload
      | _ => none) = some [12#8, 0#8, 255#8, 2#8, 0#8] := by decide

/-- 10 R159, R167; 02 R36: a RECALL that changes the period from 20 to 40 and binds loop 1 as THERMAL works
its slot position out from the restarted count: (0 + 40 - 10) mod 40. -/
theorem test_recalled_slot :
    (((State.applyImage { base with modulator := { base.modulator with slotCount := 7 } }
      { ImageData.factory with
        profile := { Profile.factory with period := 40 }
        loops := ImageData.factory.loops.set 1 (loopCfg .thermal) }).modulator.recs.get 1).map
      ModRec.slotPos) = some 30 := by decide

/-- 10 R160, R161: at an expiry at which a head that is on is switched off, the place it frees goes to the
starved loop that joins at the head of the queue, not to the loop that waited. -/
theorem test_starved_first :
    (let r : ModRec := { state := .idle, onSlots := 14, slotPos := 5, warmCount := 0, starved := false }
     let loop := fun i : Fin 16 => ({ LoopRec.cleared (loopCfg .thermal) .open (some 1000) with
       o := if i = 0 then 0 else 566 } : LoopRec)
     let s : State := { base with
       profile := { Profile.factory with inrush := 1 }
       loops := ((base.loops.set 0 (loop 0)).set 1 (loop 1)).set 4 (loop 4)
       modulator := { slotCount := 19, queue := [1]
                      recs := ((base.modulator.recs.set 0 (some { r with state := .granted })).set 1
                        (some { r with state := .waiting })).set 4 (some { r with starved := true }) } }
     let t := s.modExpiry
     (t.modulator.queue, (t.modulator.recs.get 4).map ModRec.state)) = ([1], some .granted) := by decide

/-- 10 R159: the head of a THERMAL loop that leaves its exercise by a change of kind is closed by the close
request under the old kind; the modulator, which drops the record, hands nothing off. -/
theorem test_rekinded_exercise :
    (let s : State := { withLoop .thermal fun l => { l with state := .exercise } with
       mode := .summer
       heads := base.heads.set 0 { Head.fresh with
         present := true, kind := some .thermal, commanded := some 1000, acked := some 1000 }
       exercise := { running := true, list := [], turnDue := false
                     current := some { loop := 0, phase := .open, count := some 1 } } }
     match exec (.writeLoop src (writeBytes 0 [(1, 1)])) s with
     | .next t => ((t.heads.get 0).wants.close, (t.heads.get 0).wants.drive, (t.heads.get 0).commanded)
     | _ => (none, true, none)) = (some .thermal, false, some 0) := by decide

/-! ## The hypotheses of the statements are met

One theorem for each statement with hypotheses; its parts are the statement's clauses, at a boundary value
where a clause has a range. -/

theorem meets_StepTakesFront : ({ base with pending := [.longDip] } : State).pending = [.longDip] ∧
    base.pending = [] := by
  and_intros <;> decide

/-- RingKept, PendingSetsKept, StringModeStoreKept. -/
theorem meets_invariants : ∃ t, step { busy with pending := [.sendComplete] } = .next t ∧
    busy.ringGood ∧ busy.pendingOk ∧ busy.stringOk ∧ busy.modeOk ∧ busy.storeOk ∧ busy.alarmOk :=
  ⟨_, rfl, by and_intros <;> decide⟩

theorem meets_RequestKept : ∃ t, step { base with pending := [.requestStep] } = .next t ∧ base.requestOk :=
  ⟨_, rfl, requestOk_base⟩

theorem meets_LoopsKept :
    ∃ t, step { withLoop .motor id with pending := [.loopSettled 0] } = .next t ∧
      (withLoop .motor id).loopsOk ∧ (withLoop .motor id).queueOk :=
  ⟨_, rfl, loopsOk_motor, queueOk_of (by decide) (by decide)⟩

theorem meets_RanksKept : ∃ t, step { heard with pending := [.forget src []] } = .next t ∧ heard.ranksOk :=
  ⟨_, rfl, ranksOk_heard⟩

theorem meets_AlarmKept : ({ base with opening := { base.opening with alarm := true } } : State).alarmOk := by
  decide

theorem meets_BadFrameDiscarded : base.atRest ∧ ¬ passesCheck [1#8] ∧ passesCheck [0xFF#8, 0xFF#8] ∧
    failsForm [0xFF#8, 0xFF#8] ∧ base.mode ≠ .repeater ∧ base.ring.station ≠ 0 ∧ 9 ≠ base.ring.station ∧
    headerOk base.ring.station 9 31 0 [1#8] ∧ failsContent .rrp [1#8] ∧
    headerOk 0 9 0 0 [] ∧ failsContent .ord [] ∧
    failsContent .srp [0#8, 0#8, 4#8, 0#8, 0#8, 0#8, 0#8] := by
  refine ⟨by decide, ?_, ⟨[], _, _, rfl, by decide⟩, by decide, by decide, by decide, by decide, by decide,
    by decide, by decide, by decide, by decide⟩
  rintro ⟨b, h, l, e, -⟩
  have := congrArg List.length e
  simp at this

theorem meets_OwnFrameStripped : base.pendingOk ∧ base.modeOk ∧
    headerOk 31 base.ring.station 31 255 [] ∧ headerOk 0 base.ring.station 0 0 [] := by
  and_intros <;> decide

theorem meets_FrameForwarded : base.atRest ∧ headerOk 0 8 0 0 [] ∧ headerOk 31 8 1 0 [] ∧
    8 ≠ base.ring.station ∧ 31 ≠ base.ring.station ∧ 0 ≠ base.ring.station ∧
    (queued 0).ring.insertion.length < 6 ∧
    ({ busy with ring := { busy.ring with insertion := List.replicate 6 someFrame } } : State).atRest ∧
    ({ base with mode := .repeater } : State).atRest ∧
    base.mode ≠ .repeater ∧ base.ring.station ≠ 0 ∧ 1 ≠ base.ring.station ∧
    headerOk base.ring.station 1 1 0 [5#8, 1#8] ∧ headerOk 0 1 0 255 [4#8, 0#8, 1#8] := by
  and_intros <;> decide

theorem meets_ArbiterChooses : busy.ringGood ∧ busy.ring.out.isSome = true ∧
    (∀ n ∈ [7, 8], ({ queued 1 with ring := { (queued 1).ring with
      insertion := [someFrame], streak := n } } : State).ringGood) ∧ (queued 1).ringGood ∧
    ({ busy with ring := { busy.ring with insertion := [someFrame] } } : State).ringGood := by
  and_intros <;> decide

/-- A report at the edge of the plausible band. -/
def report : Report :=
  { air := 4500, setpoint := 2100, mode := .comfort, floor := some 3500, windowOpen := true
    batteryLow := false }

theorem report_inWords : report.inWords := ⟨by decide, by decide, by intro f h; cases h; decide⟩

theorem meets_BoundReportTaken : heard.atRest ∧ heard.mode ≠ .repeater ∧ heard.ring.station ≠ 0 ∧
    (31 : Nat) < 32 ∧ report.inWords ∧ (heard.rooms.get 0).state ≠ .unbound ∧ 10 ≠ heard.ring.station ∧
    headerOk heard.ring.station 10 1 0 (reportPayload 31 report) ∧
    headerOk 0 10 0 0 (reportPayload 0 report) ∧ heard.binding.get 1 = .bound 10 0 none 4 ∧
    (∀ j, (heard.binding.get j).address = some 10 → j = 1) :=
  ⟨by decide, by decide, by decide, by decide, report_inWords, by decide, by decide, by decide, by decide,
    by decide, by decide⟩

/-- A binding table with no FREE entry and one LEARNED one. -/
def full : State :=
  { base with binding := .ofFn fun i : Fin 16 =>
      if i = 15 then .learned 31 0 2000 0 else .bound (i.val + 5) 0 none 0 }

theorem meets_UnboundReportTaken : heard.atRest ∧ report.inWords ∧ heard.ranksOk ∧
    headerOk heard.ring.station 9 0 0 (reportPayload 0 report) ∧
    headerOk 0 9 1 0 (reportPayload 0 report) ∧
    heard.binding.get 0 = .learned 9 0 2100 3 ∧
    (∀ j, (heard.binding.get j).address = some 9 → j = 0) ∧
    (∀ j, (heard.binding.get j).address ≠ some 11) ∧ heard.profile.learn = true ∧
    heard.binding.get 2 = .free ∧ (∀ j, j < 2 → heard.binding.get j ≠ .free) ∧
    full.atRest ∧ (∀ j, full.binding.get j ≠ .free) ∧ (∀ j, (full.binding.get j).address ≠ some 3) ∧
    (full.binding.get 15).rank = some (learnedCount full.binding - 1) ∧
    (∀ j, ((full.binding.set 15 (.bound 1 0 none 0)).get j).room.isSome = true) :=
  ⟨by decide, report_inWords, ranksOk_heard, by decide, by decide, by decide, by decide, by decide, by decide, by decide,
    by decide, by decide, by decide, by decide, by decide, by decide⟩

theorem meets_SourceReportTaken : base.atRest ∧ base.mode ≠ .repeater ∧ base.ring.station ≠ 0 ∧
    inWord (-32768) ∧ inWord 32767 ∧ 3 ≠ base.ring.station ∧
    headerOk base.ring.station 3 0 0 (sourcePayload 0#8 0#8 3 (-32768) 32767) ∧
    headerOk 0 3 1 0 (sourcePayload 0#8 0#8 0 (-32768) 32767) ∧
    base.profile.source = 0 ∧
    ({ base with profile := { Profile.factory with source := 2 } } : State).atRest := by
  and_intros <;> decide

theorem meets_OrdersTurnedAway : base.atRest ∧ orderParts (.hold src []) = some (src, 10) ∧
    src.origin ≠ base.ring.station ∧ (queued 7).ring.ownSend.length < 8 ∧ (queued 7).atRest ∧
    ({ base with profile := { Profile.factory with manager := 31 } } : State).atRest ∧
    ({ base with store := { base.store with state := .storing } } : State).accepts src ∧
    base.accepts src ∧ (0#8).toNat = 0 ∧ 15 < (16#8).toNat ∧
    (10, 3) ∈ orderForms ∧ (orderArgs (.hold src [])).length ≠ 3 ∧ base.store.state = .ready ∧
    (13, 1) ∈ orderForms ∧ (orderArgs (.string src [0#8, 0#8])).length ≠ 1 ∧ 13 ∈ [1, 3, 4, 13, 15] := by
  and_intros <;> decide

theorem meets_OrderDropped : orderParts (.read src []) = some (src, 1) ∧ (queued 8).atRest ∧
    src.broadcast = false ∧ src.origin ≠ (queued 8).ring.station ∧ 8 ≤ (queued 8).ring.ownSend.length := by
  and_intros <;> decide

theorem meets_BroadcastIgnored : orderParts (.store bsrc []) = some (bsrc, 6) ∧ base.pendingOk ∧
    bsrc.broadcast = true ∧ base.profile.broadcast = false ∧
    ({ hearing with store := { hearing.store with state := .recalling } } : State).pendingOk ∧
    7 ∉ [4, 5, 6, 8] ∧ hearing.pendingOk ∧ (6, 0) ∈ orderForms ∧
    (orderArgs (.store bsrc [0#8])).length ≠ 0 := by
  and_intros <;> decide

/-- What an addressed order meets in the statements about orders. -/
abbrev Ordered (s : State) : Prop := s.atRest ∧ s.accepts src ∧ s.store.state = .ready

theorem ordered_base : Ordered base := by and_intros <;> decide
theorem ordered_heard : Ordered heard := by and_intros <;> decide
theorem ordered_full : Ordered (queued 7) := by and_intros <;> decide
theorem ordered_broadcast : hearing.atRest ∧ hearing.acceptsBroadcast bsrc ∧ hearing.store.state = .ready := by
  and_intros <;> decide

theorem meets_ReadAnswers : Ordered base ∧ Ordered (queued 7) := ⟨ordered_base, ordered_full⟩
theorem meets_StatusAnswers : Ordered base ∧ Ordered (queued 7) := ⟨ordered_base, ordered_full⟩
theorem meets_LearnedEntriesListedAndForgotten : Ordered heard ∧ heard.ranksOk :=
  ⟨ordered_heard, ranksOk_heard⟩
theorem meets_FlagsCleared : Ordered base ∧ hearing.atRest ∧ hearing.acceptsBroadcast bsrc ∧
    (queued 5).settled ∧ (queued 5).ring.ownSend.length < 6 ∧ (queued 6).settled ∧
    ¬ (queued 6).ring.ownSend.length < 6 ∧ (base.flags.get Flag.headFault.number).set = false ∧
    base.profile.noticeMask.getLsbD Flag.headFault.number.val = true :=
  ⟨ordered_base, ordered_broadcast.1, ordered_broadcast.2.1, by decide, by decide, by decide, by decide, by decide,
    by decide⟩
theorem meets_StoreOrdersTaken :
    Ordered base ∧ hearing.atRest ∧ hearing.acceptsBroadcast bsrc ∧ hearing.store.state = .ready :=
  ⟨ordered_base, ordered_broadcast⟩
theorem meets_RestartTaken :
    Ordered base ∧ hearing.atRest ∧ hearing.acceptsBroadcast bsrc ∧ hearing.store.state = .ready :=
  ⟨ordered_base, ordered_broadcast⟩
theorem meets_LoopsReseeded : Ordered (withLoop .motor id) ∧ (withLoop .motor id).bound 0 = true := by
  and_intros <;> decide
theorem meets_TimingRequested : Ordered base ∧ (2#8 ≠ 0#8 ∧ 2#8 ≠ 1#8) := ⟨ordered_base, by decide⟩

theorem meets_WriteTurnedAway : Ordered base ∧ (∀ p ∈ ([(24, 0)] : Pairs), p.1 < 256 ∧ inWord p.2) ∧
    [24].getD 0 0 ≤ 24 ∧ (1 ≤ 1) ∧ ¬ (([(4, 0), (4, 0)] : Pairs).map Prod.fst).Nodup ∧
    [7].getD 0 0 ≤ 7 ∧ (fieldRow 0 0).any (FieldRow.admits · 32) = false ∧
    (fieldRow 0 0).any (FieldRow.admits · 31) = true ∧ (fieldRow 1 1).any (FieldRow.admits · (-1)) = false ∧
    (fieldRow 1 1).any (FieldRow.admits · (-32768)) = true ∧ 22 < 23 ∧ 21 % 3 ≠ 1 := by
  and_intros <;> decide

theorem meets_ProfileWritten : Ordered base ∧ base.loopsOk ∧ base.queueOk ∧ writable 0 [(11, 4500), (12, 4499)] [(11, 4500), (12, 4499)] false ∧
    (Profile.ofFields (overlay base.profile.fields [(11, 4500), (12, 4499)])).requestMax < 4500 ∧
    writable 0 [(8, 501), (10, 5), (17, 8), (21, 0)] [(8, 500), (10, 5), (17, 8), (21, 0)] true ∧
    (let new := Profile.ofFields (overlay base.profile.fields [(8, 500), (10, 5), (17, 8), (21, 0)])
     new.requestMin ≤ new.requestMax ∧ new.overLimit = base.profile.overLimit ∧
      new.overHyst = base.profile.overHyst ∧ new.inrush ≤ base.profile.inrush ∧
      new.supply = base.profile.supply) ∧
    writable 0 [(14, 3499), (16, 0), (19, 16)] [(14, 3500), (16, 0), (19, 16)] true ∧
    (let new := Profile.ofFields (overlay base.profile.fields [(14, 3500), (16, 0), (19, 16)])
     new.overLimit ≠ base.profile.overLimit ∧ base.profile.inrush < new.inrush ∧
      new.supply ≠ base.profile.supply) :=
  ⟨ordered_base, loopsOk_base, queueOk_base, by decide, by decide, by decide, by decide, by decide, by decide⟩

theorem meets_RoomWritten : Ordered base ∧ writable 2 [(0, 2001), (3, -32768)] [(0, 2000), (3, -32768)] true := by
  and_intros <;> decide

theorem meets_BindingWritten : Ordered heard ∧ heard.ranksOk ∧ writable 1 [(0, 9), (1, 11)] [(0, 9), (1, 11)] false ∧
    writable 1 [] [] false ∧ writable 1 [(1, -32768)] [(1, -32768)] false ∧
    (∀ j k, (heard.binding.get j).address = (heard.binding.get k).address →
      (heard.binding.get j).address.isSome = true → j = k) ∧
    (heard.binding.get 1).room = some 0 :=
  ⟨ordered_heard, ranksOk_heard, by decide, by decide, by decide, by decide, by decide⟩

theorem meets_LoopBoundByWrite : Ordered base ∧
    writable 3 [(5, 500), (6, 200)] [(5, 500), (6, 200)] false ∧
    writable 3 [(0, 11), (1, 2)] [(0, 11), (1, 2)] false ∧
    (base.loops.get 0).cfg.bound = false ∧
    (LoopCfg.ofFields (overlay (base.loops.get 0).cfg.fields [(0, 11), (1, 2)])).bound = true ∧
    base.loopCount 11 < 4 ∧
    (withLoop .motor id).atRest ∧ (withLoop .motor id).accepts src ∧ (withLoop .motor id).loopsOk ∧
    writable 3 [(1, 0)] [(1, 0)] false ∧ ((withLoop .motor id).loops.get 0).cfg.bound = true ∧
    (LoopCfg.ofFields (overlay ((withLoop .motor id).loops.get 0).cfg.fields [(1, 0)])).bound = false ∧
    (withLoop .motor id).exercising 0 = false ∧
    Ordered (opened .motor) ∧ (opened .motor).loopsOk ∧
    writable 3 [(5, 200), (6, 200)] [(5, 200), (6, 200)] false ∧
    ((opened .motor).loops.get 0).o ≠ 200 ∧ writable 3 [(1, 2)] [(1, 2)] false ∧
    (opened .motor).exercise.list = [] ∧ Ordered (exercising .open [1]) ∧ (exercising .open [1]).loopsOk :=
  ⟨ordered_base, by decide, by decide, by decide, by decide, by decide, by decide, by decide, loopsOk_motor, by decide,
    by decide, by decide, by decide, by and_intros <;> decide,
    loopsOk_of (by decide) (by decide) (by decide) (by decide) (by decide), by decide, by decide, by decide,
    by decide, by and_intros <;> decide,
    loopsOk_of (by decide) (by decide) (by decide) (by decide) (by decide)⟩

theorem meets_WindowWritten : Ordered base ∧ writable 4 [(2, 9500), (3, 9499)] [(2, 9500), (3, 9499)] false ∧
    writable 4 [(2, 9501)] [(2, 9500)] true := by
  and_intros <;> decide

theorem meets_ChannelWritten : Ordered base ∧ writable 5 [(0, 17), (1, 201)] [(0, 17), (1, 200)] true ∧
    base.profile.supply ≠ 0 ∧ (base.channels.get 0).state = .unused ∧
    (({ base with channels := base.channels.set 0 (.cleared (.factory 0) .fresh) } : State).channels.get
      0).state ≠ .unused ∧ base.profile.supply = 16 ∧ writable 5 [(1, -200)] [(1, -200)] false := by
  and_intros <;> decide

theorem meets_ModeOrdered : ({ base with mode := .start } : State).accepts src ∧
    ({ hearing with mode := .summer } : State).acceptsBroadcast bsrc ∧
    base.exercise.current = none ∧ (0#8 ≠ 1#8 ∧ 0#8 ≠ 2#8) := by
  and_intros <;> decide

/-- The store at work for the house controller. -/
def working (st : StoreState) (n : Nat) (image : Image) : State :=
  { queued n with store :=
    { state := st, powerUp := false, requester := some (1, 7), copy := some .factory, image := image } }

theorem meets_StoreCompletes : ∀ n ∈ [7, 8], (working .storing n .neverWritten).atRest ∧
    (working .storing n .neverWritten).storeOk ∧ (working .storing n .neverWritten).ring.deferred = none ∧
    ({ working .storing n .neverWritten with store :=
      { (working .storing n .neverWritten).store with requester := none } } : State).storeOk := by
  decide

/-- The image of a verified STORE is valid. -/
theorem written_valid (d : ImageData) : (Image.written d).valid = true := by
  simp [Image.valid, Image.written]

theorem meets_RecallCompletes : (working .recalling 8 .neverWritten).atRest ∧
    (working .recalling 8 .neverWritten).storeOk ∧ Image.neverWritten.valid = false ∧
    (working .recalling 7 (.written .factory)).atRest ∧ (Image.written .factory).valid = true ∧
    (∀ i, ImageData.factory.factors.get i = none) ∧ (working .recalling 8 .neverWritten).loopsOk :=
  ⟨by decide, by decide, by decide, by decide, written_valid _, by decide,
    loopsOk_of (by decide) (by decide) (by decide) (by decide) (by decide)⟩

theorem meets_HoldAndRelease : (withLoop .thermal id).loopsOk ∧ (withLoop .thermal id).atRest ∧
    (withLoop .thermal id).accepts src ∧ inWord 1001 ∧ 16 ≤ (16#8).toNat ∧
    (base.loops.get 15).state = .unbound ∧ ((withLoop .thermal id).loops.get 0).state ≠ .unbound ∧
    (withLoop .motor fun l => { l with state := .held, hold := some 1000 }).loopsOk ∧
    Ordered (exercising .open []) ∧ (exercising .open []).loopsOk ∧ (exercising .open []).queueOk :=
  ⟨loopsOk_thermal, by decide, by decide, by decide, by decide, by decide, by decide,
    loopsOk_of (by decide) (by decide) (by decide) (by decide) (by decide), by and_intros <;> decide,
    loopsOk_of (by decide) (by decide) (by decide) (by decide) (by decide),
    queueOk_of (by decide) (by decide)⟩

theorem meets_FaultCleared : ∀ r ∈ [FaultReason.stall, .kind, .window],
    (withLoop .motor fun l => { l with state := .fault, reason := some r }).loopsOk ∧
    (withLoop .motor fun l => { l with state := .fault, reason := some r }).atRest := by
  intro r hr
  fin_cases hr <;>
    exact ⟨loopsOk_of (by decide) (by decide) (by decide) (by decide) (by decide), by decide⟩

theorem meets_PowerUpRecallCompletes : State.reset.atRest ∧ State.reset.store.powerUp = true ∧
    State.reset.store.state = .recalling := by
  and_intros <;> decide

/-- A part with a channel in a given state whose conversion is under way. -/
def converting (st : ChannelState) (run missed : Nat) : State :=
  { base with
    channels := base.channels.set 0 { Channel.cleared (.factory 0) st with validRun := run, missed := missed }
    converter := some { channel := 0, discard := false } }

theorem meets_ConversionsTaken : (converting .filling 2 0).atRest ∧
    (converting .filling 2 0).starting = false ∧ ((converting .filling 2 0).channels.get 0).state ≠ .unused ∧
    State.reset.starting = true ∧ (converting .filling 2 0).profile.supply ≠ 0 ∧
    (-3000 : Int) ≤ -3000 + ((converting .filling 2 0).channels.get 0).cfg.trim ∧
    (9500 : Int) < 9501 + ((converting .filling 2 0).channels.get 0).cfg.trim ∧
    (converting .aging 0 29).atRest ∧ (converting .fresh 3 5).atRest ∧ base.profile.supply = 16 ∧
    ({ base with converter := some { channel := 16, discard := false } } : State).atRest := by
  and_intros <;> decide

theorem meets_ChannelTransitions : ∀ s ∈ [converting .filling 2 0, converting .lost 2 30,
    converting .fresh 3 5, converting .filling 0 29, converting .aging 0 29, converting .lost 0 29,
    converting .fresh 3 4, converting .filling 1 28],
    s.atRest ∧ s.converter = some { channel := 0, discard := false } := by
  decide

theorem meets_RoundAgesAndDemands : heard.atRest ∧ heard.starting = false ∧
    (heard.rooms.get 0).state = .waiting := by
  and_intros <;> decide

/-- Loop 0 OPENING at the end of its settle counter, its head settled at `a`, in a cold room that is switched
off, whose demand is 300 (05 R84). -/
def settling (a : Int) : State :=
  { withLoop .motor fun l => { l with state := .opening, o := a, settle := 1, settled := true } with
    rooms := base.rooms.modify 0 fun r =>
      { r with state := .active, mode := some .off, air := some 600, setpoint := some 2000 }
    heads := base.heads.modify 0 fun h =>
      { h with kind := some .motor, acked := some a, commanded := some a } }

/-- 06 R96, R97: an OPENING loop whose new O makes a MOVE waits for the head to arrive there; one whose
new O lies within the motor deadband of 20 becomes OPEN. -/
theorem test_new_move_keeps_opening :
    (((settling 320).expiry.loops.get 0).state = .opening ∧
      ((settling 320).expiry.loops.get 0).settled = false) ∧
    (((settling 319).expiry.loops.get 0).state = .open ∧
      ((settling 319).expiry.loops.get 0).openRef = some 300) := by
  decide

theorem meets_RoundTargetsAndCall : base.loopsOk ∧ base.exercise.running = false ∧
    ({ base with mode := .start } : State).atRest ∧ State.reset.starting = true ∧
    ({ base with opening := { base.opening with source := { base.opening.source with age := 10 } } } :
      State).atRest ∧
    (∀ f ∈ [id, fun l : LoopRec => { l with state := .held, hold := some 100 },
        fun l => { l with state := .fault, reason := some .window },
        fun l => { l with state := .fault, reason := some .kind },
        fun l => { l with state := .opening, o := 150, settle := 1, settled := true },
        fun l => { l with state := .opening, o := 150, settle := 2 },
        fun l => { l with state := .open, o := 150, openRef := some 50 }],
      (withLoop .motor f).atRest ∧ (withLoop .motor f).starting = false ∧ (withLoop .motor f).mode = .heating ∧
        (withLoop .motor f).opening.alarm = false ∧ (withLoop .motor f).exercise.running = false ∧
        ((withLoop .motor f).heads.get 0).unreachable = false ∧
        ((withLoop .motor f).heads.get 0).moving = none) ∧
    (∀ a ∈ [319, 320], (settling a).atRest ∧ (settling a).starting = false ∧ (settling a).mode = .heating) ∧
    (opened .motor).loopsOk ∧ ({ base with opening := { base.opening with alarm := true } } : State).atRest :=
  ⟨loopsOk_base, by decide, by decide, by decide, by decide, by decide,
    by decide, loopsOk_of (by decide) (by decide) (by decide) (by decide) (by decide), by decide⟩

theorem meets_StartEnds : ({ base with mode := .start, startRounds := 1 } : State).atRest ∧
    base.starting = false ∧ base.profile.modeAtStart = .heating := by and_intros <;> decide

/-- A part in SUMMER whose exercise interval ends. -/
def summer (s : State) : State := { s with mode := .summer, interval := 10079 }

theorem meets_ExerciseRuns : (summer (withLoop .motor id)).atRest ∧ (summer (withLoop .motor id)).loopsOk ∧
    (summer (withLoop .motor id)).exercise.running = false ∧
    (summer (withLoop .motor id)).boundKind 0 = some .motor ∧
    (∀ i, (summer base).bound i = false) ∧ (summer base).loopsOk ∧
    (exercising .open []).atRest ∧ (exercising .open []).loopsOk ∧
    (exercising .close [1]).atRest ∧ (exercising .close []).loopsOk ∧
    (exercising .close []).boundKind 0 = some .motor :=
  ⟨by decide, loopsOk_of (by decide) (by decide) (by decide) (by decide) (by decide), by decide, by decide,
    by decide, loopsOk_of (by decide) (by decide) (by decide) (by decide) (by decide), by decide,
    loopsOk_of (by decide) (by decide) (by decide) (by decide) (by decide), by decide,
    loopsOk_of (by decide) (by decide) (by decide) (by decide) (by decide), by decide⟩

/-- A part at the end of a balancing round, with loop 0 OPEN and both its channels FRESH. -/
def balancing : State :=
  { withLoop .motor fun l => { l with state := .open, o := 200, b := some 900, spreadCount := 9 } with
    roundPos := 9, interrupted := false
    channels := (base.channels.set 0 { Channel.cleared (.factory 0) .fresh with filtered := some 2500 }).set
      16 { Channel.cleared (.factory 16) .fresh with filtered := some 5000 } }

theorem meets_BalancingRoundEnds : balancing.atRest ∧ balancing.starting = false ∧
    balancing.mode = .heating ∧ balancing.profile.roundLength ≤ balancing.roundPos + 1 ∧
    (balancing.loops.get 0).cfg.bound = true ∧ balancing.profile.eligibility ≤ (balancing.loops.get 0).o ∧
    balancing.goodSpread (balancing.loops.get 0) = some 2500 ∧
    base.roundPos + 1 < base.profile.roundLength ∧
    ({ balancing with roundPos := 8 } : State).atRest ∧ 8 + 1 < balancing.profile.roundLength ∧
    balancing.opening.source.age ≠ 10 ∧ balancing.interrupted = false := by
  and_intros <;> decide

/-- Room 0 in a state of its own. -/
def withRoom (f : Room → Room) : State :=
  { base with rooms := base.rooms.set 0 (f (.cleared .factory .active)) }

theorem meets_StaleEvents : (withRoom fun r => { r with sinceReport := 29 }).atRest ∧
    ((withRoom fun r => { r with sinceReport := 29 }).rooms.get 0).cfg.staleTime = 30 ∧
    (withRoom fun r => { r with windowMark := true, windowRounds := 59 }).atRest ∧
    ((withRoom id).rooms.get 0).cfg.windowTimeout = 60 ∧ base.starting = false ∧
    base.mode ≠ .repeater := by
  and_intros <;> decide

/-- Room 0 with a demand, and the counters at 2. -/
def demanding (d : Int) : State :=
  { withRoom fun r => { r with demand := d, setpoint := some 2400, mode := some .comfort } with
    opening := { base.opening with up := 2, down := 2, tReq := 3000 } }

theorem meets_RequestSteps : ∀ d ∈ [(0 : Int), 600, 601, 899, 900, 1000],
    (demanding d).atRest ∧ (demanding d).starting = false ∧ (demanding d).mode = .heating ∧
    10 < (demanding d).opening.source.age ∧
    (demanding d).profile.requestMin ≤ (demanding d).profile.requestMax ∧ 0 ≤ d ∧
    (∀ r, ((demanding d).rooms.get r).state = .active → ((demanding d).rooms.get r).demand ≤ d) ∧
    ((demanding d).rooms.get 0).demand = d ∧ ((demanding d).rooms.get 0).effective = some 2400 := by
  decide

theorem meets_LoopSettles :
    (withLoop .motor fun l => { l with state := .opening, o := 1, settle := 1, settled := true }).atRest ∧
    (withLoop .motor id).starting = false := by
  and_intros <;> decide

/-- A window on loop 0's opening, one match from its threshold. -/
def watching (faults : Bool) : State :=
  { withLoop .motor fun l => { l with state := .open, o := 150 } with
    windows := base.windows.set 0 {
      cfg := { WindowCfg.factory with
        loop := some 0, quantity := .opening, low := 150, high := 150, outside := false
        qualifier := 150, threshold := 3, faults := faults }
      count := 2, state := .armed } }

theorem meets_WindowTrips : ∀ f ∈ [false, true], (watching f).atRest ∧ (watching f).starting = false ∧
    (watching f).mode ≠ .repeater ∧ ((watching f).windows.get 0).cfg.loop = some 0 ∧
    ((watching f).loops.get 0).state ≠ .unbound ∧ (watching f).tripValue 0 = some 150 ∧
    (base.windows.get 0).state ≠ .armed := by
  decide

/-- A window that faults loop 0 in its exercise. -/
def watchedExercise : State :=
  { exercising .open [1] with
    windows := (watching true).windows
    loops := (exercising .open [1]).loops.modify 0 fun l => { l with o := 150 } }

theorem meets_WindowTrips_exercise : watchedExercise.atRest ∧ watchedExercise.loopsOk ∧
    watchedExercise.tripValue 0 = some 150 ∧ (watchedExercise.loops.get 0).state = .exercise :=
  ⟨by decide, loopsOk_of (by decide) (by decide) (by decide) (by decide) (by decide), by decide, by decide⟩

/-- Loop 0 THERMAL with O `o` and a record of its own, one expiry before on-slots 14 and three rounds of
warm-up; it waits where the record says so. -/
def modulated (o : Int) (f : ModRec → ModRec) (slot : Nat) : State :=
  let m := f { state := .idle, onSlots := 14, slotPos := 13, warmCount := 2, starved := false }
  { withLoop .thermal fun l => { l with state := .opening, o := o } with
    modulator := { slotCount := slot, queue := if m.state = .waiting then [0] else []
                   recs := base.modulator.recs.set 0 (some m) } }

/-- The invariants that ModulationSteps asks of a state, as they can be read off. -/
abbrev LoopsRead (s : State) : Prop :=
  (∀ i, (s.loops.get i).state = .unbound ↔ s.bound i = false) ∧
    (∀ i, (s.modulator.recs.get i).isSome = true ↔ s.boundKind i = some .thermal) ∧
    (∀ i, (s.loops.get i).state = .exercise ↔ s.exercise.current.map Turn.loop = some i) ∧
    (s.exercise.current.isSome = true → s.exercise.running = true ∧ s.exercise.turnDue = false) ∧
    (s.starting = true → ∀ i, s.bound i = false) ∧ s.modulator.queue.Nodup ∧
    ∀ i, s.modulator.queue.contains i = (s.modulator.recs.get i).any fun m => m.state == .waiting

theorem loopsRead_ok {s : State} (h : LoopsRead s) : s.loopsOk ∧ s.queueOk :=
  ⟨loopsOk_of h.1 h.2.1 h.2.2.1 h.2.2.2.1 h.2.2.2.2.1, queueOk_of h.2.2.2.2.2.1 h.2.2.2.2.2.2⟩

theorem modulated_read : ∀ t ∈ [ModState.idle, .waiting, .granted, .warming, .on],
    ∀ s ∈ [modulated 566 (fun m => { m with state := t }) 19, modulated 0 (fun m => { m with state := t }) 19,
      modulated 566 (fun m => { m with state := t }) 3],
    LoopsRead s ∧ s.atRest ∧ s.starting = false ∧ s.exercising 0 = false := by
  intro t ht s hs
  fin_cases ht <;> fin_cases hs <;> and_intros <;> decide

/-- The period start of loop 0 falls at slot 0 of 20; records in each state, with on-slots above 0 and with
none. -/
theorem meets_ModulationSteps : (19 + 1) % 20 = (0 % 4) * (20 / 4) ∧ (3 + 1) % 20 ≠ (0 % 4) * (20 / 4) ∧
    (modulated 566 id 19).profile.period = 20 ∧ onSlotsOf .factory 566 = 14 ∧ onSlotsOf .factory 0 = 0 ∧
    (∀ t ∈ [ModState.idle, .waiting, .granted, .warming, .on],
      ((modulated 0 (fun m => { m with state := t }) 19).modulator.recs.get 0).map ModRec.state = some t) ∧
    (modulated 0 id 3).profile.warmUp ≤ 2 + 1 ∧ min 60 (13 + 1) = 14 := by
  and_intros <;> decide

/-- Loop 0 MOTOR and its head in a state of its own, the string supply GOOD. -/
def withHead (k : HeadKind) (l : LoopRec → LoopRec) (f : Head → Head) (x : Option Transfer) : State :=
  { withLoop k l with
    heads := base.heads.set 0 (f { Head.fresh with present := true, kind := some k })
    string := { base.string with monitor := .good, transfer := x } }

/-- Loop 0 in its exercise with a head that has travelled for four rounds and missed two commands. -/
def exercised (x : Option Transfer) : State :=
  { exercising .open [1] with
    heads := base.heads.set 0 { Head.fresh with
      present := true, kind := some .motor, moving := some 4, misses := 2 }
    string := { base.string with monitor := .good, transfer := x } }

theorem meets_StallsAndReprobes :
    (withHead .motor id (fun h => { h with moving := some 4 }) none).atRest ∧
    (withHead .motor id (fun h => { h with moving := some 4 }) none).loopsOk ∧
    (withHead .motor id (fun h => { h with moving := some 4 }) none).bound 0 = true ∧
    (withHead .motor id (fun h => { h with unreachable := true, reprobeCount := 9 }) none).atRest ∧
    (withHead .motor id (fun h => { h with unreachable := true, reprobeCount := 9 }) none).loopsOk ∧
    (exercised none).atRest ∧ (exercised none).loopsOk :=
  ⟨by decide, loopsOk_of (by decide) (by decide) (by decide) (by decide) (by decide), by decide, by decide,
    loopsOk_of (by decide) (by decide) (by decide) (by decide) (by decide), by decide,
    loopsOk_of (by decide) (by decide) (by decide) (by decide) (by decide)⟩

/-- Two heads of group 0 with a probe to send. -/
def twoPending : State :=
  let probe := { Head.fresh with wants := { Wants.nothing with probe := true } }
  { base with
    heads := (base.heads.set 4 probe).set 0 probe
    string := { base.string with monitor := .good, order := [4, 0] } }

/-- The head of a MOTOR loop that has reported itself THERMAL and holds a drive want. -/
def wrongKind (drive : Bool) : State :=
  { withHead .motor id (fun h => { h with
      kind := some .thermal, commanded := some 400, wants := { Wants.nothing with drive := drive } }) none with
    string := { base.string with monitor := .good, order := if drive then [0] else [] } }

/-- 09 R152: a head of a known wrong kind is not driven. -/
theorem test_wrong_kind_not_driven : (wrongKind true).ready 0 = false := by decide

theorem meets_TransferStarts : twoPending.atRest ∧ twoPending.ready 4 = true ∧
    (∀ h, twoPending.ready h = true → (4 + 3 - 3) % 4 ≤ (h.val + 3 - 3) % 4) ∧
    twoPending.string.order.find? (fun h => h.val % 4 == 0 && twoPending.ready h) = some 4 ∧
    twoPending.nextCommand 4 = some (.probe, .basic) ∧ (∀ h, base.ready h = false) ∧ base.atRest ∧
    (∀ w ∈ [{ Wants.nothing with timing := true }, { Wants.nothing with close := some .motor },
      { Wants.nothing with close := some .thermal }, { Wants.nothing with probe := true },
      { Wants.nothing with drive := true }],
      ({ withHead .motor id (fun h => { h with wants := w, commanded := some 1 }) none with
        string := { base.string with order := [0] } } : State).atRest) ∧
    (wrongKind true).atRest ∧ (wrongKind true).boundKind 0 ≠ some .thermal := by
  and_intros <;> decide

/-- The transfer whose last member is head 0. -/
def last (c : HeadCommand) (void : Bool) : Option Transfer :=
  some { group := 0, head := 0, command := c, sentAt := .basic, rest := [], void := void }

theorem meets_HeadAnswers :
    (withHead .motor id (fun h => { h with commanded := some 400, wants := { h.wants with drive := true } })
      (last (.move 400 false) false)).atRest ∧
    (withHead .thermal id (fun h => { h with commanded := some 1000 })
      (last (.switch true false) false)).atRest ∧
    (withHead .motor id (fun h => { h with moving := some 2, acked := some 400 }) (last .probe false)).atRest ∧
    (withHead .motor id id (last .probe false)).atRest ∧
    (withHead .motor id id (last .probe false)).boundKind 0 = some .motor ∧
    ((withHead .motor id id (last .probe false)).loops.get 0).state = .closed ∧
    -10 ≤ (410 : Int) - 400 ∧ (410 : Int) - 400 ≤ 10 ∧
    (withHead .motor id id (last .probe true)).atRest ∧
    (withHead .motor id id (some { group := 0, head := 0, command := .probe, sentAt := .fast, rest := []
                                   void := false })).atRest ∧ base.string.timing ≠ .fast ∧
    (∀ c ∈ [HeadCommand.move 0 true, .switch false true, .setTiming .basic, .mismatchProbe],
      (withHead .motor id id (last c false)).atRest) ∧
    ({ base with string := { base.string with transfer := last (.move 0 true) false } } : State).bound 0 = false ∧
    (withHead .motor (fun l => { l with state := .fault, reason := some .head })
      (fun h => { h with unreachable := true }) (last .reprobe false)).atRest ∧
    answers .probe (.probed .motor 0 false) = true := by
  and_intros <;> decide

theorem meets_AnswerWindowEnds :
    (∀ n ∈ [0, 1, 2], (withHead .motor id (fun h => { h with misses := n }) (last .probe false)).atRest) ∧
    (withHead .motor id (fun h => { h with misses := 2 }) (last .probe false)).loopsOk ∧
    (withHead .motor id (fun h => { h with unreachable := true }) (last .reprobe false)).atRest ∧
    (withHead .motor id (fun h => { h with unreachable := true }) (last .reprobe false)).loopsOk ∧
    (exercised (last .probe false)).atRest ∧ (exercised (last .probe false)).loopsOk :=
  ⟨by decide, loopsOk_of (by decide) (by decide) (by decide) (by decide) (by decide), by decide,
    loopsOk_of (by decide) (by decide) (by decide) (by decide) (by decide), by decide,
    loopsOk_of (by decide) (by decide) (by decide) (by decide) (by decide)⟩

theorem meets_TimingSwitches :
    ({ base with string := { base.string with monitor := .good, requested := some .fast } } : State).atRest ∧
    ({ base with string := { base.string with monitor := .good, broadcast := some .fast } } : State).atRest ∧
    base.string.broadcast = none ∧ base.string.timing = .basic := by
  and_intros <;> decide

/-- The supply is back, and head 12 was in flight when it dipped. -/
def resuming : State :=
  { twoPending with string := { twoPending.string with monitor := .recovering, resume := some 12 } }

theorem meets_StringSupply : (∀ m ∈ [Monitor.good, .dip, .recovering],
    ({ base with string := { base.string with monitor := m } } : State).atRest) ∧
    base.string.resume = none ∧ base.string.longDip = false ∧ resuming.atRest ∧ resuming.ready 0 = true ∧
    resuming.nextCommand 0 = some (.probe, .basic) ∧
    (∀ j ∈ [(12 : Fin 16)], resuming.ready j = false) ∧ (∀ j : Fin 16, base.ready j = false) := by
  and_intros <;> decide

end Sys2Proof.Tests
end

section
/-! The ring port at the arrival of an own frame (01, R3) and at the completion of a sending (01, R8, R9, R11;
11, R176). -/

namespace Sys2Proof.Machine

variable {s : State}

/-! ## Stripping (01, R3) -/

/-- Out of REPEATER a frame with the own station as origin is stripped. -/
theorem State.dispatch_own {f : Frame} (hm : s.mode ≠ .repeater) (ho : f.origin = s.ring.station) :
    s.dispatch f = s := by
  simp [State.dispatch, hm, ho]

/-- Settles O12: a station address that a frame can carry is not 0, so the part is out of REPEATER and strips
the frame before it is delivered or forwarded. -/
theorem ownFrameStripped : Obligations.OwnFrameStripped := by
  unfold Obligations.OwnFrameStripped
  intro s dest hop kind tag payload hp hm hh
  have hout : s.mode ≠ .repeater := fun h => by
    have h0 : s.ring.station = 0 := hm.mp h
    have h1 : 1 ≤ s.ring.station := hh.2.1
    omega
  show (s.frameArrives (frameBytes dest s.ring.station hop kind tag payload)).done = .next s
  rw [State.frameArrives_frameBytes kind hh, State.dispatch_own hout rfl]
  exact State.done_id hp rfl rfl

/-! ## Moves one after the other -/

/-- More rounds than there are moves left change nothing. -/
theorem settleLoop_succ {m : Nat} {rep : Bool} : ∀ (k : Nat) (p : RingPort × Tab 16 FlagRec),
    movesLeft p.1 ≤ k → settleLoop m rep (k + 1) p = settleLoop m rep k p
  | 0, p, h => by
    have hs : settleStep m rep p = none := settleLoop_none 0 p h
    simp only [settleLoop, hs]
  | k + 1, p, h => by
    rw [settleLoop, settleLoop]
    cases hs : settleStep m rep p with
    | none => rfl
    | some p' =>
      have hlt := settleStep_movesLeft hs
      exact settleLoop_succ k p' (by omega)

/-- `settle` may begin with any move that is due. -/
theorem State.settle_move {p : RingPort × Tab 16 FlagRec}
    (h : settleStep s.profile.manager (s.mode == .repeater) (s.ring, s.flags) = some p) :
    s.settle = State.settle { s with ring := p.1, flags := p.2 } := by
  have hk : settleLoop s.profile.manager (s.mode == .repeater) 12 (s.ring, s.flags) =
      settleLoop s.profile.manager (s.mode == .repeater) 12 p := by
    rw [settleLoop_succ 11 p (le_trans (movesLeft_le _) (by omega)), settleLoop, h]
  simp only [State.settle, hk]

/-! ## The next notice (11, R176) -/

/-- The lowest pending flag of a priority. -/
def firstPending (fl : Tab 16 FlagRec) (p : Nat) : Option (Fin 16) :=
  (List.finRange 16).find? fun n => (fl.get n).pending && flagPriority n == p

theorem chooseNotice_eq (fl : Tab 16 FlagRec) :
    chooseNotice fl = [3, 2, 1, 0].findSome? (firstPending fl) := rfl

theorem firstPending_eq_none {fl : Tab 16 FlagRec} {p : Nat} :
    firstPending fl p = none ↔ ∀ n, (fl.get n).pending = true → flagPriority n ≠ p := by
  simp [firstPending, List.find?_eq_none]

theorem firstPending_eq_some {fl : Tab 16 FlagRec} {n : Fin 16} (hn : (fl.get n).pending = true)
    (hlow : ∀ m, (fl.get m).pending = true → flagPriority m = flagPriority n → n ≤ m) :
    firstPending fl (flagPriority n) = some n := by
  refine List.find?_eq_some_iff_getElem.mpr ⟨by simp [hn], n.val, by simp, by simp, ?_⟩
  intro j hj
  have hj16 : j < 16 := by omega
  cases hp : (fl.get ⟨j, hj16⟩).pending with
  | false => simp [hp]
  | true =>
    have hne : flagPriority ⟨j, hj16⟩ ≠ flagPriority n := fun e =>
      absurd (hlow _ hp e) (Nat.not_le.mpr hj)
    simp [hne]

/-- The notice unit finds none where no flag is pending. -/
theorem chooseNotice_none {fl : Tab 16 FlagRec} (h : ∀ n, (fl.get n).pending = false) :
    chooseNotice fl = none := by
  have hnone : ∀ p, firstPending fl p = none := fun p =>
    firstPending_eq_none.mpr fun n hn => by simp [h n] at hn
  simp [chooseNotice_eq, hnone]

/-- The notice unit finds the flag that is the next to be noticed: no priority above its own has a pending
flag, and in its own it is the lowest. -/
theorem State.chooseNotice_of_next {n : Fin 16} (h : s.nextNotice n) : chooseNotice s.flags = some n := by
  obtain ⟨hn, hle⟩ := h
  have hfirst : ∀ m, (s.flags.get m).pending = true →
      flagPriority m < flagPriority n ∨ flagPriority m = flagPriority n ∧ n ≤ m := hle
  have habove : ∀ p, flagPriority n < p → firstPending s.flags p = none := fun p hp =>
    firstPending_eq_none.mpr fun m hm e => by have := hfirst m hm; omega
  have hown : firstPending s.flags (flagPriority n) = some n :=
    firstPending_eq_some hn fun m hm e => by have := hfirst m hm; omega
  have hrange : flagPriority n = 3 ∨ flagPriority n = 2 ∨ flagPriority n = 1 ∨ flagPriority n = 0 := by
    unfold flagPriority; split_ifs <;> simp
  rw [chooseNotice_eq]
  rcases hrange with e | e | e | e <;> rw [e] at habove hown <;>
    simp [habove, hown]

/-! ## The claimants of a free own-send place (01, R11) -/

/-- A busy out-port has no choice to make. -/
theorem RingPort.mustChoose_busy {r : RingPort} (h : r.out.isSome = true) : r.mustChoose = false := by
  obtain ⟨f, hf⟩ := Option.isSome_iff_exists.mp h
  simp [RingPort.mustChoose, hf]

/-- The deferred answer takes the last free place. -/
theorem State.settle_deferred {f : Frame} (ho : s.ring.out.isSome = true) (hl : s.ring.ownSend.length = 7)
    (hd : s.ring.deferred = some f) :
    s.settle = { s with ring := { s.ring with deferred := none, ownSend := s.ring.ownSend ++ [f] } } := by
  refine settle_step (p := ({ s.ring with deferred := none, ownSend := s.ring.ownSend ++ [f] }, s.flags)) ?_
    (settled_of (RingPort.mustChoose_busy ho) (.inl ?_))
  · simp [settleStep, RingPort.mustChoose_busy ho, hl, hd, Config.ownPlaces, RingPort.push]
  · simp [hl]

/-- Without a deferred answer, the pending CALL value takes the last free place, with the next tag. -/
theorem State.settle_pendingCall {c : List Byte} (ho : s.ring.out.isSome = true)
    (hl : s.ring.ownSend.length = 7) (hd : s.ring.deferred = none) (hc : s.ring.pendingCall = some c) :
    s.settle = { s with ring := { s.ring with
      pendingCall := none, ownTag := s.nextTag, ownSend := s.ring.ownSend ++ [s.callFrame s.nextTag c] } } := by
  refine settle_step (p := ({ s.ring with
      pendingCall := none, ownTag := s.nextTag
      ownSend := s.ring.ownSend ++ [s.callFrame s.nextTag c] }, s.flags)) ?_
    (settled_of (RingPort.mustChoose_busy ho) (.inl ?_))
  · simp only [settleStep, RingPort.mustChoose_busy ho, hl, hd, hc, Config.ownPlaces]
    rfl
  · simp [hl]

/-- The flags after the notice of flag `n` has been queued. -/
def State.noticed (s : State) (n : Fin 16) : Tab 16 FlagRec :=
  s.flags.modify n fun f => { f with pending := false }

theorem State.noticed_get (n m : Fin 16) : (s.noticed n).get m =
    if m = n then { s.flags.get m with pending := false } else s.flags.get m := by
  rw [State.noticed, Tab.get_modify]
  by_cases e : m = n
  · simp [e]
  · simp [e, Ne.symm e]

/-- Without another claimant, the next notice takes the last place that a notice may have. -/
theorem State.settle_notice {n : Fin 16} (ho : s.ring.out.isSome = true) (hl : s.ring.ownSend.length = 5)
    (hd : s.ring.deferred = none) (hc : s.ring.pendingCall = none) (hm : s.mode ≠ .repeater)
    (hn : s.nextNotice n) :
    s.settle = { s with
      flags := s.noticed n
      ring := { s.ring with ownTag := s.nextTag, ownSend := s.ring.ownSend ++ [s.noticeFrame n] } } := by
  have hrep : (s.mode == .repeater) = false := by simpa using hm
  refine settle_step (p := ({ s.ring with
      ownTag := s.nextTag, ownSend := s.ring.ownSend ++ [s.noticeFrame n] }, s.noticed n)) ?_
    (settled_of (RingPort.mustChoose_busy ho) (.inr ⟨hd, hc, .inl ?_⟩))
  · simp only [settleStep, RingPort.mustChoose_busy ho, hl, hd, hc, hrep, Config.ownPlaces,
      Config.noticeRoom, State.chooseNotice_of_next hn, RingPort.pushOwn]
    rfl
  · simp [hl]

/-! ## The arbiter at the completion of a sending (01, R9) -/

/-- The part as its out-port falls IDLE. -/
def State.sendEnds (s : State) : State := { s with ring := { s.ring with out := none } }

/-- The part after an own frame has been chosen, before its place is taken. -/
def State.sendsOwn (s : State) (g : Frame) : State :=
  { s with ring := { s.ring with out := some g, ownSend := s.ring.ownSend.drop 1, streak := 0 } }

/-- A completed sending is followed by the moves that are due. -/
theorem exec_sendComplete (h : s.ring.out.isSome = true) :
    exec .sendComplete s = .next s.sendEnds.settle := by
  show execSendComplete s = _
  rw [execSendComplete, if_pos h]; rfl

/-- With a frame waiting, the arbiter's choice comes first. -/
theorem State.settle_sendEnds (h : s.ring.insertion ≠ [] ∨ s.ring.ownSend ≠ []) :
    s.sendEnds.settle =
      State.settle { s with ring := RingPort.choose { s.ring with out := none } } := by
  have hmust : s.sendEnds.ring.mustChoose = true := by
    simpa [RingPort.mustChoose, State.sendEnds, or_iff_not_imp_left] using h
  exact State.settle_move (s := s.sendEnds)
    (p := (RingPort.choose { s.ring with out := none }, s.flags)) (by rw [settleStep, if_pos hmust]; rfl)

/-- Nothing more is due after a change that leaves the own-send queue and its claimants as they were. -/
theorem State.settle_same_own (h : s.settled) {r : RingPort} (hm : r.mustChoose = false)
    (ho : r.ownSend = s.ring.ownSend) (hd : r.deferred = s.ring.deferred)
    (hc : r.pendingCall = s.ring.pendingCall) :
    State.settle { s with ring := r } = { s with ring := r } := by
  refine State.settle_of_settled _ (settled_of hm ?_)
  show 8 ≤ r.ownSend.length ∨ r.deferred = none ∧ r.pendingCall = none ∧ (6 ≤ r.ownSend.length ∨ _)
  rw [ho, hd, hc]
  exact (State.settled_cases h).2

/-- Both queues empty: the out-port stays IDLE. -/
theorem State.settle_sendEnds_idle (h : s.settled) (hi : s.ring.insertion = []) (ho : s.ring.ownSend = []) :
    s.sendEnds.settle = { s with ring := { s.ring with out := none } } :=
  State.settle_same_own h (by simp [RingPort.mustChoose, hi, ho]) rfl rfl rfl

/-- The arbiter forwards a frame: no own-send place becomes free. -/
theorem State.settle_sendEnds_forward (h : s.settled) {f : Frame} {ins : List Frame} {n : Nat}
    (hi : s.ring.insertion = f :: ins)
    (hch : RingPort.choose { s.ring with out := none } =
      { s.ring with insertion := ins, out := some f, streak := n }) :
    s.sendEnds.settle = { s with ring := { s.ring with insertion := ins, out := some f, streak := n } } := by
  rw [State.settle_sendEnds (.inl (by simp [hi])), hch]
  exact State.settle_same_own h (by simp [RingPort.mustChoose]) rfl rfl rfl

/-- The arbiter sends an own frame: with an empty insertion queue, or with the forward streak at its limit. -/
theorem State.settle_sendEnds_own {g : Frame} {own : List Frame} (ho : s.ring.ownSend = g :: own)
    (h : s.ring.insertion = [] ∨ 8 ≤ s.ring.streak) : s.sendEnds.settle = (s.sendsOwn g).settle := by
  rw [State.settle_sendEnds (.inr (by simp [ho]))]
  have hch : RingPort.choose { s.ring with out := none } =
      { s.ring with out := some g, ownSend := s.ring.ownSend.drop 1, streak := 0 } := by
    rcases choose_cases { s.ring with out := none } with ⟨-, hq, -⟩ | ⟨f, ins, hi, ⟨hq, -⟩ | ⟨-, hst, -⟩⟩ |
      ⟨g', own', hq, e⟩
    · simp [ho] at hq
    · simp [ho] at hq
    · rcases h with h | h
      · simp [h] at hi
      · exact absurd hst (Nat.not_lt.mpr h)
    · have hq : s.ring.ownSend = g' :: own' := hq
      rw [ho] at hq
      obtain ⟨rfl, rfl⟩ := List.cons.inj hq
      rw [e, ho]; rfl
  rw [hch]; rfl

/-- A claimant that waited on a settled part waited at a full own-send queue. -/
theorem State.ownSend_full (h : s.ringGood) (hw : s.ring.deferred ≠ none ∨ s.ring.pendingCall ≠ none) :
    s.ring.ownSend.length = 8 := by
  obtain ⟨⟨-, hle, -⟩, hs⟩ := h
  rcases (State.settled_cases hs).2 with hl | ⟨hd, hc, -⟩
  · omega
  · simp [hd, hc] at hw

/-- Out of REPEATER a notice that waited on a settled part waited at six frames or more. -/
theorem State.ownSend_notices_full (h : s.settled) (hm : s.mode ≠ .repeater) {n : Fin 16}
    (hn : s.nextNotice n) : 6 ≤ s.ring.ownSend.length := by
  have hch := State.chooseNotice_of_next hn
  rcases (State.settled_cases h).2 with hl | ⟨-, -, hl | hm' | hc⟩
  · omega
  · exact hl
  · exact absurd hm' hm
  · simp [hch] at hc

/-- Settles O14: the arbiter's choice comes first. A choice that leaves the own-send queue alone leaves nothing
due on a part that was settled; one that sends an own frame frees one place, and the claimants waited at full
queues, so that one claimant fills it again. -/
theorem arbiterChooses : Obligations.ArbiterChooses := by
  unfold Obligations.ArbiterChooses
  intro s hg hout own sent ownSent
  obtain ⟨hb, hs⟩ := hg
  have hown : ∀ (g : Frame) (rest : List Frame), s.ring.ownSend = g :: rest →
      ownSent g (s.sendsOwn g).settle := by
    intro g rest hq
    have hlen : own.length + 1 = s.ring.ownSend.length := by simp [own, hq]
    have hbusy : (s.sendsOwn g).ring.out.isSome = true := rfl
    refine ⟨fun f hd => ?_, fun c hd hc => ?_, fun hd hc => ⟨fun n hl hm hn => ?_, fun hr => ?_⟩⟩
    · have hfull := State.ownSend_full ⟨hb, hs⟩ (.inl (by simp [hd]))
      exact State.settle_deferred hbusy (show own.length = 7 by omega) hd
    · have hfull := State.ownSend_full ⟨hb, hs⟩ (.inr (by simp [hc]))
      exact State.settle_pendingCall hbusy (show own.length = 7 by omega) hd hc
    · have hfull := State.ownSend_notices_full hs hm hn
      rw [State.settle_notice hbusy (show own.length = 5 by omega) hd hc hm hn]
      exact ⟨rfl, State.noticed_get n⟩
    · refine State.settle_of_settled _ (settled_of rfl (.inr ⟨hd, hc, ?_⟩))
      exact hr.imp_right (Or.imp_right chooseNotice_none)
  refine ⟨s.sendEnds.settle, exec_sendComplete hout, rfl, fun n _ => s.sendEnds.settle_flag n,
    (s.sendEnds.settle_bounded hb).2.2.2.1, ?_⟩
  cases hi : s.ring.insertion with
  | nil =>
    cases hq : s.ring.ownSend with
    | nil => exact State.settle_sendEnds_idle hs hi hq
    | cons g rest =>
      show ownSent g _
      rw [State.settle_sendEnds_own hq (.inl hi)]
      exact hown g rest hq
  | cons f ins =>
    cases hq : s.ring.ownSend with
    | nil => exact State.settle_sendEnds_forward hs hi (by simp [RingPort.choose, hi, hq])
    | cons g rest =>
      show if s.ring.streak ≤ 7 then _ else ownSent g _
      split_ifs with hst
      · exact State.settle_sendEnds_forward hs hi
          (by simp [RingPort.choose, hi, hq, Config.streakLimit, Nat.lt_succ_of_le hst])
      · rw [State.settle_sendEnds_own hq (.inr (by omega))]
        exact hown g rest hq

end Sys2Proof.Machine
end

section
/-! READ and STATUS (02, R23, R26): what the part answers is what State.shown lists of an entry, and the part's
codes and bits. -/

namespace Sys2Proof.Machine

variable {s : State}

/-! ## An order that is answered at once and has no effect -/

/-- An accepted order that neither waits nor acts, on a part with nothing due: its answer is on its way, and
nothing else has changed. -/
theorem State.takeOrder_answers {src : OrderFrom} (hr : s.atRest) (ha : s.accepts src) {code : Nat}
    (hc : 1 ≤ code ∧ code ≤ 15) (hs : storeGated code = false) {run : State → Taking} {a : Answer}
    {data : List Byte} (hrun : run s = { answer := a, data := data, deferred := false, act := id }) :
    (s.takeOrder src code true run).done = .next (s.withAnswer src code a.code data) := by
  obtain ⟨hset, hpend⟩ := hr
  rw [State.takeOrder_runs ha hset hc (.inr hs), hrun]
  exact State.done_id hpend rfl rfl

/-! ## Counting the records of a table -/

/-- The records of a table, in the order of their indexes. -/
theorem Tab.map_get_finRange {n : Nat} {α : Type} (t : Tab n α) : (List.finRange n).map t.get = t.toList := by
  obtain ⟨l, rfl⟩ := t
  exact List.map_get_finRange l

theorem Tab.count_eq_countP_finRange {n : Nat} {α : Type} (t : Tab n α) (p : α → Bool) :
    t.count p = (List.finRange n).countP fun i => p (t.get i) := by
  rw [Tab.count, ← t.map_get_finRange, List.countP_map]; rfl

/-- Every record satisfies the test. -/
theorem Tab.count_eq_size {n : Nat} {α : Type} {t : Tab n α} {p : α → Bool} :
    t.count p = n ↔ ∀ i, p (t.get i) = true := by
  rw [Tab.count_eq_countP_finRange]
  simpa using List.countP_eq_length (p := fun i => p (t.get i)) (l := List.finRange n)

/-! ## The fields of an entry, as READ shows them (02, section 2.2) -/

theorem codeOr_eq {α : Type} (f : α → Int) (v : Option α) : codeOr f v = shownOr (v.map f) := by
  cases v <;> rfl

theorem codeBool_eq (b : Bool) : codeBool b = shownBit b := rfl

theorem kindCode_eq (k : Option HeadKind) : (kindCode k : Int) = shownKind k := by
  rcases k with _ | _ | _ <;> rfl

theorem Profile.fields_eq_shown (p : Profile) : p.fields = p.shown := by
  simp only [Profile.fields, Profile.shown, codeBool_eq, List.cons.injEq, true_and, and_true]
  cases p.modeAtStart <;> rfl

theorem BindingEntry.fields_eq_shown (e : BindingEntry) : e.fields = e.shown := by
  cases e with
  | free => rfl
  | bound a r last n => cases last <;> rfl
  | learned a k last n => rfl

theorem State.roomFields_eq_shown (r : Fin 12) :
    (s.rooms.get r).fields (s.loopCount r) = s.shownRoom r := by
  simp only [Room.fields, RoomCfg.fields, State.shownRoom, State.loopCount, Tab.count_eq_countP_finRange,
    codeBool_eq, codeOr_eq, Option.map_id_apply, List.cons_append, List.nil_append, List.cons.injEq, true_and,
    and_true]
  constructor
  · cases (s.rooms.get r).state <;> rfl
  · rcases (s.rooms.get r).mode with _ | _ | _ | _ <;> rfl

theorem LoopRec.fields_eq_shown (l : LoopRec) : l.fields = l.shown := by
  simp only [LoopRec.fields, LoopCfg.fields, LoopRec.shown, codeBool_eq, codeOr_eq, Option.map_id_apply,
    kindCode_eq, List.cons_append, List.nil_append, List.cons.injEq, true_and, and_true]
  constructor
  · cases l.state <;> rfl
  · rcases l.reason with _ | _ | _ | _ | _ <;> rfl

theorem Window.fields_eq_shown (w : Window) : w.fields = w.shown := by
  simp only [Window.fields, WindowCfg.fields, Window.shown, codeBool_eq, codeOr_eq,
    List.cons_append, List.nil_append, List.cons.injEq, true_and, and_true]
  constructor
  · cases w.cfg.quantity <;> rfl
  · cases w.state <;> rfl

/-- 04 R57: the references of a channel, counted by index. -/
theorem State.references_eq (ch : Fin 18) :
    s.references ch = (if s.profile.supply = ch then 1 else 0) + (List.finRange 16).countP fun i =>
      (s.loops.get i).cfg.bound && (s.loops.get i).cfg.channel == ch := by
  simp only [State.references, referencesOf, Tab.count_eq_countP_finRange, beq_iff_eq]

theorem State.channelFields_eq_shown (ch : Fin 18) :
    (s.channels.get ch).fields (s.references ch) = s.shownChannel ch := by
  simp only [Channel.fields, ChannelCfg.fields, State.shownChannel, State.references_eq, codeOr_eq,
    Option.map_id_apply, List.cons_append, List.nil_append, List.cons.injEq, true_and, and_true]
  constructor
  · cases (s.channels.get ch).state <;> rfl
  · cases (s.channels.get ch).lastResult <;> rfl

/-- 09 R145: a command to the head is on the string. -/
theorem State.inFlight_eq_any (h : Fin 16) : s.inFlight h = s.string.transfer.any (fun x => x.head == h) := by
  unfold State.inFlight
  cases s.string.transfer <;> rfl

theorem State.headFields_eq_shown (h : Fin 16) : s.headFields h = s.shownHead h := by
  simp only [State.headFields, State.headState, State.shownHead, State.inFlight_eq_any, codeBool_eq,
    codeOr_eq, Option.map_id_apply, List.cons.injEq, true_and, and_true]
  refine ⟨?_, ?_, ?_, ?_⟩
  · rcases (s.heads.get h).kind with _ | _ | _ <;> rfl
  · rcases (s.heads.get h).timing with _ | _ | _ <;> rfl
  · simp only [Nat.cast_ite, Nat.cast_ofNat, Nat.cast_one, Nat.cast_zero]
    rfl
  · cases (s.heads.get h).moving <;> rfl

theorem Channel.historyFields_eq_shown (c : Channel) :
    c.historyFields = (List.range 16).map fun k => shownOr c.history[k]? := by
  simp only [Channel.historyFields, Config.historyPlaces, codeOr_eq, Option.map_id_apply]

/-- The fields that READ takes its answer from are those that the field tables list. -/
theorem State.tableFields_eq_shown : ∀ table index : Nat, s.tableFields table index = s.shown table index
  | 0, _ => Profile.fields_eq_shown _
  | 1, _ => BindingEntry.fields_eq_shown _
  | 2, _ => State.roomFields_eq_shown _
  | 3, _ => LoopRec.fields_eq_shown _
  | 4, _ => Window.fields_eq_shown _
  | 5, _ => State.channelFields_eq_shown _
  | 6, _ => State.headFields_eq_shown _
  | 7, _ => Channel.historyFields_eq_shown _
  | _ + 8, _ => rfl

/-! ## READ (02, R23) -/

theorem tableEntries_eq : ∀ t, tableEntries t = [1, 16, 12, 16, 8, 18, 16, 18].getD t 0
  | 0 | 1 | 2 | 3 | 4 | 5 | 6 | 7 | _ + 8 => rfl

theorem tableWidth_eq : ∀ t, tableWidth t = [24, 6, 23, 20, 11, 11, 9, 16].getD t 0
  | 0 | 1 | 2 | 3 | 4 | 5 | 6 | 7 | _ + 8 => rfl

/-- A READ with its three argument bytes is an order of the right form. -/
theorem exec_read (src : OrderFrom) (table index first : Byte) :
    exec (.read src [table, index, first]) s =
      (s.takeOrder src 1 true (readTaking [table, index, first])).done := rfl

/-- An entry or a field that does not exist. -/
theorem readTaking_unknown {table index first : Byte}
    (h : tableEntries table.toNat ≤ index.toNat ∨ tableWidth table.toNat ≤ first.toNat) :
    readTaking [table, index, first] s = .fail .unknown := if_pos h

/-- A field that exists: as many shown fields from there as there are, and nine at most. -/
theorem readTaking_done {table index first : Byte}
    (h : ¬ (tableEntries table.toNat ≤ index.toNat ∨ tableWidth table.toNat ≤ first.toNat)) :
    readTaking [table, index, first] s =
      let n := min 9 (tableWidth table.toNat - first.toNat)
      .doneWith ([table, index, first, byteOf n] ++
        (((s.shown table.toNat index.toNat).drop first.toNat).take n).flatMap bytes16) id := by
  rw [← State.tableFields_eq_shown]
  exact if_neg h

/-- Settles O21: READ is exempt from the store test and has no effect, its tests are those of the table's
size, and the fields it takes its answer from are the shown ones. -/
theorem readAnswers : Obligations.ReadAnswers := by
  unfold Obligations.ReadAnswers
  intro s src table index first hr ha
  simp only [← tableEntries_eq, ← tableWidth_eq, exec_read]
  split_ifs with hno
  · exact State.takeOrder_answers hr ha (by decide) (by decide) (readTaking_unknown hno)
  · exact State.takeOrder_answers hr ha (by decide) (by decide) (readTaking_done hno)

/-! ## STATUS (02, R26) -/

/-- Adding up the weights of the set bits gives the number with those bits. -/
theorem foldl_weights_eq_ofBits {k : Nat} (p : Fin k → Bool) (c a : Nat) :
    (List.finRange k).foldl (fun a n => if p n then a + c * 2 ^ n.val else a) a = a + c * Nat.ofBits p := by
  induction k generalizing c a with
  | zero => simp
  | succ k ih =>
    have hweight : ∀ n : Fin k, c * 2 ^ n.succ.val = 2 * c * 2 ^ n.val := fun n => by
      rw [Fin.val_succ]; ring
    have hrest := fun b => ih (p ∘ Fin.succ) (2 * c) b
    simp only [Function.comp_apply] at hrest
    simp only [List.finRange_succ, List.foldl_cons, List.foldl_map, hweight, hrest, Nat.ofBits_succ]
    cases p 0 <;> simp <;> ring

theorem State.flagBits_eq : s.flagBits = Nat.ofBits fun n => (s.flags.get n).set := by
  simpa [State.flagBits] using foldl_weights_eq_ofBits (fun n => (s.flags.get n).set) 1 0

/-- 02 R26: bit n of the flags word is set while flag n is. -/
theorem State.getLsbD_flagBits (n : Fin 16) :
    (BitVec.ofNat 16 s.flagBits).getLsbD n.val = (s.flags.get n).set := by
  rw [BitVec.getLsbD_ofNat, State.flagBits_eq, Nat.testBit_ofBits_lt _ _ n.isLt]
  simp

theorem State.learningFull_iff : s.learningFull = true ↔ ∀ i, (s.binding.get i).room.isSome = true := by
  rw [State.learningFull, beq_iff_eq, Tab.count_eq_size]

theorem byteOf_boolToNat (b : Bool) : byteOf b.toNat = if b then 1#8 else 0#8 := by
  cases b <;> rfl

/-- 02 R26: the byte that says that all sixteen binding entries are BOUND. -/
theorem State.byteOf_learningFull : byteOf s.learningFull.toNat =
    if ∀ i, (s.binding.get i).room.isSome = true then 1#8 else 0#8 := by
  rw [byteOf_boolToNat]
  exact if_congr State.learningFull_iff rfl rfl

/-- A STATUS is an order of the right form without argument bytes. -/
theorem exec_status (src : OrderFrom) :
    exec (.status src []) s = (s.takeOrder src 3 true fun s => .doneWith s.statusBytes id).done := rfl

/-- Settles O22: STATUS is exempt from the store test and has no effect; of its ten bytes the flag bits are
those of the word that getLsbD_flagBits describes, and the three codes are compared value by value. -/
theorem statusAnswers : Obligations.StatusAnswers := by
  unfold Obligations.StatusAnswers
  intro s src hr ha
  refine ⟨BitVec.ofNat 16 s.flagBits, State.getLsbD_flagBits, ?_⟩
  rw [exec_status, State.takeOrder_answers hr ha (by decide) (by decide) rfl]
  refine congrArg (fun data => Host.Outcome.next (s.withAnswer src 3 0 data)) ?_
  simp only [State.statusBytes, bytes16, BitVec.ofInt_natCast, byteOf_boolToNat s.opening.alarm,
    byteOf_boolToNat s.store.image.valid, State.byteOf_learningFull, List.cons_append, List.nil_append,
    List.cons.injEq, true_and, and_true]
  refine ⟨?mode, ?store, ?string⟩
  case mode => cases s.mode <;> rfl
  case store => cases s.store.state <;> rfl
  case string =>
    unfold State.stringCode
    cases s.string.timing <;> cases s.suspended <;> rfl

end Sys2Proof.Machine
end

section
/-! CLEAR, events and ALERT (11, sections 11.2 to 11.4): an order that may also be broadcast, the clearing of
flags and windows, and the notice of an event on a part with nothing due. -/

namespace Sys2Proof.Machine

variable {s : State}

/-! ## An order taken addressed or broadcast (02, R19, R22) -/

/-- The answer to an order touches the ring port alone. -/
theorem State.taken_eq (src : OrderFrom) (code answer : Nat) (data : List Byte) :
    s.taken src code answer data = { s with ring := (s.taken src code answer data).ring } := by
  unfold State.taken
  split <;> rfl

@[simp] theorem State.taken_flags (src : OrderFrom) (code answer : Nat) (data : List Byte) :
    (s.taken src code answer data).flags = s.flags := by rw [State.taken_eq]

@[simp] theorem State.taken_windows (src : OrderFrom) (code answer : Nat) (data : List Byte) :
    (s.taken src code answer data).windows = s.windows := by rw [State.taken_eq]

@[simp] theorem State.taken_heads (src : OrderFrom) (code answer : Nat) (data : List Byte) :
    (s.taken src code answer data).heads = s.heads := by rw [State.taken_eq]

@[simp] theorem State.taken_string (src : OrderFrom) (code answer : Nat) (data : List Byte) :
    (s.taken src code answer data).string = s.string := by rw [State.taken_eq]

/-- 02 R22: a broadcast order whose rule is reached and that would be answered DONE has its effect, without
an answer. -/
theorem State.takeOrder_broadcast {src : OrderFrom} (h : s.acceptsBroadcast src) {code : Nat}
    (hc : 1 ≤ code ∧ code ≤ 15) (hs : s.store.state = .ready ∨ storeGated code = false)
    (hb : broadcastable code = true) {run : State → Taking} (hrun : (run s).answer = .done) :
    s.takeOrder src code true run = (run s).act s := by
  obtain ⟨hbc, hprofile, hmode, hown, hzero, hmanager⟩ := h
  have hhears : s.hears src = true := by simp [State.hears, hmode, hown, hzero]
  simp [State.takeOrder, hhears, hbc, State.takeBroadcast, State.judgeOrder_run hmanager hc hs, hprofile, hb, hrun]

/-- An order that is answered DONE at once, addressed or broadcast: its effect follows its answer. -/
theorem State.takeOrder_done {src : OrderFrom} (hr : s.settled)
    (ha : s.accepts src ∨ s.acceptsBroadcast src) {code : Nat} (hc : 1 ≤ code ∧ code ≤ 15)
    (hs : s.store.state = .ready ∨ storeGated code = false) (hb : broadcastable code = true)
    {run : State → Taking} {data : List Byte} {act : State → State} (hrun : run s = .doneWith data act) :
    s.takeOrder src code true run = act (s.taken src code 0 data) := by
  rcases ha with ha | ha
  · have haddressed : src.broadcast = false := ha.1
    have htaken : s.taken src code 0 data = s.withAnswer src code 0 data := by simp [State.taken, haddressed]
    rw [State.takeOrder_runs ha hr hc hs, hrun, htaken]
    rfl
  · have hbc : src.broadcast = true := ha.1
    have htaken : s.taken src code 0 data = s := by simp [State.taken, hbc]
    rw [State.takeOrder_broadcast ha hc hs hb (by rw [hrun]; rfl), hrun, htaken]
    rfl

/-! ## CLEAR (11, R173, R177) -/

/-- A CLEAR touches flags and windows alone. -/
theorem State.clearNamed_eq (names : Word) :
    s.clearNamed names =
      { s with flags := (s.clearNamed names).flags, windows := (s.clearNamed names).windows } := by
  unfold State.clearNamed
  split <;> rfl

theorem State.clearNamed_flags_get (names : Word) (n : Fin 16) : (s.clearNamed names).flags.get n =
    if names.getLsbD n.val then { s.flags.get n with set := false, pending := false }
    else s.flags.get n := by
  have hflags : (s.clearNamed names).flags = clearFlags names s.flags := by
    unfold State.clearNamed
    split <;> rfl
  rw [hflags, clearFlags, Tab.get_mapIdx]

/-- 11 R173: bit 3 names WINDOW_TRIP. -/
theorem State.clearNamed_windows_get (names : Word) (w : Fin 8) : (s.clearNamed names).windows.get w =
    if names.getLsbD 3 = true ∧ (s.windows.get w).state = .tripped then
      { s.windows.get w with state := .armed, count := 0 }
    else s.windows.get w := by
  have hwindows : (s.clearNamed names).windows =
      if names.getLsbD 3 then s.windows.map Window.rearm else s.windows := by
    simp only [State.clearNamed, show Flag.windowTrip.number.val = 3 from rfl]
    split <;> rfl
  rw [hwindows]
  by_cases h3 : names.getLsbD 3 = true
  · rw [if_pos h3, Tab.get_map]
    simp only [h3, true_and, Window.rearm, beq_iff_eq]
  · rw [if_neg h3, if_neg fun hboth => h3 hboth.1]

/-- A CLEAR is an order of the right form with two argument bytes. -/
theorem exec_clear (src : OrderFrom) (hi lo : Byte) :
    exec (.clear src [hi, lo]) s =
      (s.takeOrder src 4 true fun _ => .doneWith [] fun s => s.clearNamed (hi ++ lo)).done := rfl

/-- CLEAR is exempt from the store test, and leaves nothing due. -/
theorem exec_clear_taken {src : OrderFrom} (hr : s.atRest) (ha : s.accepts src ∨ s.acceptsBroadcast src)
    (hi lo : Byte) :
    exec (.clear src [hi, lo]) s = .next ((s.taken src 4 0 []).clearNamed (hi ++ lo)) := by
  obtain ⟨hset, hpend⟩ := hr
  rw [exec_clear, State.takeOrder_done hset ha (by decide) (.inr (by decide)) (by decide) rfl]
  refine State.done_id hpend ?_ ?_ <;> rw [State.clearNamed_eq] <;> simp

/-! ## The event and its notice (11, R174 to R176) -/

/-- 11 R175: the notice mask enables a flag, or its priority 3, which flag 0 alone has. -/
theorem noticeEnabled_iff {mask : Word} {n : Fin 16} :
    noticeEnabled mask n = true ↔ mask.getLsbD n.val = true ∨ n = 0 := by
  have hpriority : flagPriority n = 3 ↔ n = 0 := by revert n; decide
  simp [noticeEnabled, hpriority]

/-- The notice unit looks at the pending marks alone. -/
theorem chooseNotice_congr {fl fl' : Tab 16 FlagRec} (h : ∀ n, (fl.get n).pending = (fl'.get n).pending) :
    chooseNotice fl = chooseNotice fl' := by
  simp only [chooseNotice, h]

/-- Where the notice unit finds none, no flag is pending. -/
theorem pending_of_chooseNotice_none {fl : Tab 16 FlagRec} (h : chooseNotice fl = none) (n : Fin 16) :
    (fl.get n).pending = false := by
  rw [chooseNotice_eq, List.findSome?_eq_none_iff] at h
  have hmem : flagPriority n ∈ [3, 2, 1, 0] := by
    unfold flagPriority
    split_ifs <;> simp
  by_contra hp
  exact firstPending_eq_none.mp (h _ hmem) n (by simpa using hp) rfl

/-- The event enters flag `n` into the pending-notice set: the flag was clear and its notice is enabled. -/
def State.joinsNotices (s : State) (n : Fin 16) : Prop :=
  (s.flags.get n).set = false ∧ (s.profile.noticeMask.getLsbD n.val = true ∨ n = 0)

/-- A notice finds a place at once. -/
def State.hasNoticeRoom (s : State) : Prop := s.ring.ownSend.length < 6 ∧ s.mode ≠ .repeater

/-- The part with the record of flag `n` replaced. -/
def State.withFlag (s : State) (n : Fin 16) (r : FlagRec) : State := { s with flags := s.flags.set n r }

/-- The record of a flag that an event has set with this detail. -/
def raisedRec (index : Nat) (value : Int) (pending : Bool) : FlagRec :=
  { set := true, index := index, value := value, pending := pending }

theorem State.withFlag_get (n m : Fin 16) (r : FlagRec) :
    (s.withFlag n r).flags.get m = if m = n then r else s.flags.get m := by
  simp only [State.withFlag, Tab.get_set, eq_comm]

theorem State.withFlag_get_self (n : Fin 16) (r : FlagRec) : (s.withFlag n r).flags.get n = r := by
  rw [State.withFlag_get, if_pos rfl]

/-- 11 R175: a flag that does not join the set keeps its membership. -/
theorem State.raiseFlag_eq_of_not_joins {f : Flag} (h : ¬ s.joinsNotices f.number) (index : Nat) (value : Int) :
    s.raiseFlag f index value =
      (s.withFlag f.number (raisedRec index value (s.flags.get f.number).pending)).settle := by
  have hoff : (!(s.flags.get f.number).set && noticeEnabled s.profile.noticeMask f.number) = false := by
    rw [Bool.eq_false_iff]
    simpa [noticeEnabled_iff, State.joinsNotices] using h
  simp only [State.raiseFlag, Tab.modify, FlagRec.raise, hoff, Bool.or_false]
  rfl

theorem State.raiseFlag_eq_of_joins {f : Flag} (h : s.joinsNotices f.number) (index : Nat) (value : Int) :
    s.raiseFlag f index value = (s.withFlag f.number (raisedRec index value true)).settle := by
  have hon : (!(s.flags.get f.number).set && noticeEnabled s.profile.noticeMask f.number) = true := by
    simpa [noticeEnabled_iff, State.joinsNotices] using h
  simp only [State.raiseFlag, Tab.modify, FlagRec.raise, hon, Bool.or_true]
  rfl

/-- Nothing becomes due where the pending-notice set stays as it was. -/
theorem State.settle_withFlag_same (h : s.settled) {n : Fin 16} {r : FlagRec}
    (hr : r.pending = (s.flags.get n).pending) : (s.withFlag n r).settle = s.withFlag n r := by
  have hpending : ∀ m, ((s.withFlag n r).flags.get m).pending = (s.flags.get m).pending := fun m => by
    rw [State.withFlag_get]
    split
    · next e => rw [e, hr]
    · rfl
  obtain ⟨hm, hwait⟩ := State.settled_cases h
  rw [← chooseNotice_congr hpending] at hwait
  exact State.settle_of_settled _ (settled_of hm hwait)

/-- Without room for a notice, none becomes due. -/
theorem State.settle_withFlag_full (h : s.settled) (hroom : ¬ s.hasNoticeRoom) (n : Fin 16) (r : FlagRec) :
    (s.withFlag n r).settle = s.withFlag n r := by
  obtain ⟨hm, hwait⟩ := State.settled_cases h
  refine State.settle_of_settled _ (settled_of hm ?_)
  refine hwait.imp_right fun ⟨hd, hc, _⟩ => ⟨hd, hc, ?_⟩
  show 6 ≤ s.ring.ownSend.length ∨ s.mode = .repeater ∨ _
  by_cases hl : s.ring.ownSend.length < 6
  · exact .inr (.inl (not_not.mp fun hne => hroom ⟨hl, hne⟩))
  · exact .inl (Nat.not_lt.mp hl)

/-- With room for a notice, a settled part has no claimant at the ring port. -/
theorem State.no_claimant_of_room (h : s.settled) (hroom : s.hasNoticeRoom) :
    s.ring.mustChoose = false ∧ s.ring.deferred = none ∧ s.ring.pendingCall = none ∧
      ∀ m, (s.flags.get m).pending = false := by
  obtain ⟨hl, hmode⟩ := hroom
  obtain ⟨hm, hfull | ⟨hd, hc, hfull | hrep | hnone⟩⟩ := State.settled_cases h
  · omega
  · omega
  · exact absurd hrep hmode
  · exact ⟨hm, hd, hc, pending_of_chooseNotice_none hnone⟩

/-- The next notice that finds room is the move that is due where no other claimant waits. -/
theorem settleStep_notice {n : Fin 16} (hm : s.ring.mustChoose = false) (hd : s.ring.deferred = none)
    (hc : s.ring.pendingCall = none) (hl : s.ring.ownSend.length < 6) (hmode : s.mode ≠ .repeater)
    (hn : s.nextNotice n) :
    settleStep s.profile.manager (s.mode == .repeater) (s.ring, s.flags) =
      some (RingPort.push { s.ring with ownTag := s.nextTag } (s.noticeFrame n), s.noticed n) := by
  have hrep : (s.mode == .repeater) = false := by simpa using hmode
  have hmove : settleStep s.profile.manager (s.mode == .repeater) (s.ring, s.flags) =
      some (s.ring.pushOwn .ntc s.profile.manager (noticePayload n (s.flags.get n)), s.noticed n) := by
    simp [settleStep, hm, hd, hc, hl, hrep, State.chooseNotice_of_next hn, Config.ownPlaces,
      Config.noticeRoom, State.noticed, show s.ring.ownSend.length < 8 by omega]
  exact hmove

/-- The flag's notice with the next tag is the one frame that is due; it is originated as any own frame. -/
theorem State.settle_withFlag_notice (h : s.settled) (hroom : s.hasNoticeRoom) {n : Fin 16} {r : FlagRec}
    (hr : r.pending = true) :
    (s.withFlag n r).settle = { s.withFlag n { r with pending := false } with
      ring := { s.ring.originated ((s.withFlag n r).noticeFrame n) with ownTag := s.nextTag } } := by
  obtain ⟨hm, hd, hc, hpend⟩ := State.no_claimant_of_room h hroom
  obtain ⟨hl, hmode⟩ := hroom
  have hnext : (s.withFlag n r).nextNotice n := by
    refine ⟨by rw [State.withFlag_get_self, hr], fun m hp => .inr ?_⟩
    by_cases e : m = n
    · exact ⟨by rw [e], by rw [e]⟩
    · simp [State.withFlag_get, e, hpend] at hp
  -- The part that has counted the tag and taken the flag from the set: nothing is due there.
  have hflags : (s.withFlag n r).noticed n = (s.withFlag n { r with pending := false }).flags :=
    Tab.ext_get fun m => by
      rw [State.noticed_get, State.withFlag_get, State.withFlag_get]
      split <;> rfl
  have hcounted : State.settled { s.withFlag n { r with pending := false } with
      ring := { s.ring with ownTag := s.nextTag } } := by
    refine settled_of hm (.inr ⟨hd, hc, .inr (.inr (chooseNotice_none fun m => ?_))⟩)
    show ((s.withFlag n { r with pending := false }).flags.get m).pending = false
    rw [State.withFlag_get]
    split
    · rfl
    · exact hpend m
  rw [State.settle_move (settleStep_notice (s := s.withFlag n r) hm hd hc hl hmode hnext), hflags]
  refine (State.settle_push hcounted (show s.ring.ownSend.length < 8 by omega) _).trans ?_
  unfold RingPort.originated
  split <;> rfl

/-! ## The three outcomes of an event -/

/-- 11 R174: a flag that was set or is not enabled takes the new detail. -/
theorem State.raiseFlag_not_joins (h : s.settled) {f : Flag} (hj : ¬ s.joinsNotices f.number) (index : Nat)
    (value : Int) :
    s.raiseFlag f index value =
      s.withFlag f.number (raisedRec index value (s.flags.get f.number).pending) := by
  rw [State.raiseFlag_eq_of_not_joins hj]
  exact State.settle_withFlag_same h rfl

/-- 11 R175: a notice that finds no room waits in the pending-notice set. -/
theorem State.raiseFlag_waits (h : s.settled) {f : Flag} (hj : s.joinsNotices f.number)
    (hroom : ¬ s.hasNoticeRoom) (index : Nat) (value : Int) :
    s.raiseFlag f index value = s.withFlag f.number (raisedRec index value true) := by
  rw [State.raiseFlag_eq_of_joins hj, State.settle_withFlag_full h hroom]

/-- 11 R176: a notice that finds room is originated at once. -/
theorem State.raiseFlag_notices (h : s.settled) {f : Flag} (hj : s.joinsNotices f.number)
    (hroom : s.hasNoticeRoom) (index : Nat) (value : Int) :
    s.raiseFlag f index value = { s.withFlag f.number (raisedRec index value false) with
      ring := { s.ring.originated ((s.withFlag f.number (raisedRec index value true)).noticeFrame f.number) with
        ownTag := s.nextTag } } := by
  rw [State.raiseFlag_eq_of_joins hj, State.settle_withFlag_notice h hroom rfl]
  rfl

/-- An event changes the record of its own flag alone, up to the notice sent. -/
theorem State.raiseFlag_flags (h : s.settled) (f : Flag) (index : Nat) (value : Int) :
    ∃ pending, (s.raiseFlag f index value).flags = (s.withFlag f.number (raisedRec index value pending)).flags := by
  by_cases hj : s.joinsNotices f.number
  · by_cases hroom : s.hasNoticeRoom
    · exact ⟨false, by rw [State.raiseFlag_notices h hj hroom]⟩
    · exact ⟨true, by rw [State.raiseFlag_waits h hj hroom]⟩
  · exact ⟨_, by rw [State.raiseFlag_not_joins h hj]⟩

theorem State.raiseFlag_flags_get (h : s.settled) (f : Flag) (index : Nat) (value : Int) (m : Fin 16) :
    (s.raiseFlag f index value).flags.get m =
      if m = f.number then
        raisedRec index value ((s.raiseFlag f index value).flags.get f.number).pending
      else s.flags.get m := by
  obtain ⟨pending, hflags⟩ := State.raiseFlag_flags h f index value
  simp only [hflags, State.withFlag_get, if_true]
  rfl

/-- A notice carries the kept detail of its flag, whether or not the flag is pending. -/
theorem State.noticeFrame_withFlag (n : Fin 16) (index : Nat) (value : Int) (p q : Bool) :
    (s.withFlag n (raisedRec index value p)).noticeFrame n =
      (s.withFlag n (raisedRec index value q)).noticeFrame n := by
  simp only [State.noticeFrame, State.withFlag_get_self]
  rfl

/-! ## ALERT (11, R178) -/

theorem State.alert_iff : s.alert = true ↔
    ∃ n : Fin 16, (s.flags.get n).set = true ∧ s.profile.alertMask.getLsbD n.val = true := by
  simp [State.alert]

/-- Settles O31: a CLEAR takes its place in the ring port first and leaves nothing due. An event has one of
three outcomes: its flag does not join the pending-notice set, or its notice is the only one due and is
originated, or the notice waits. -/
theorem flagsCleared : Obligations.FlagsCleared := by
  unfold Obligations.FlagsCleared
  refine ⟨?clear, ?event, fun s => State.alert_iff⟩
  case clear =>
    intro s src hi lo hr ha names
    refine ⟨_, exec_clear_taken hr ha hi lo, State.clearNamed_eq _, fun n => ?_, fun w => ?_⟩
    · rw [State.clearNamed_flags_get, State.taken_flags]
    · rw [State.clearNamed_windows_get, State.taken_windows]
  case event =>
    intro s f index value h n old t raised joins room marked
    refine ⟨State.raiseFlag_ringOnly f index value, State.raiseFlag_flags_get h f index value,
      fun hj hroom => ?notices, fun hj hroom => ?waits, fun hj => ?keeps⟩
    case notices =>
      have ht : t = _ := State.raiseFlag_notices h hj hroom index value
      rw [ht]
      refine ⟨congrArg FlagRec.pending (State.withFlag_get_self n _), ?_⟩
      rw [State.noticeFrame_withFlag _ _ _ true old.pending]
      rfl
    case waits =>
      have ht : t = _ := State.raiseFlag_waits h hj hroom index value
      rw [ht]
      exact ⟨congrArg FlagRec.pending (State.withFlag_get_self n _), rfl⟩
    case keeps =>
      have ht : t = _ := State.raiseFlag_not_joins h hj index value
      rw [ht]
      exact ⟨by rw [State.withFlag_get_self]; rfl, rfl⟩

end Sys2Proof.Machine
end
